-- ==== Sys2Proof/Word.lean ====
section
/-! DEFINITION. The word types of the MD4 digest engine (00_scope.md R10, R12). -/

namespace Sys2Proof

/-- One byte: the width of the message port (R10, R59). -/
abbrev Byte := BitVec 8

/-- A 32-bit word: the unit of arithmetic, and the width of a register of the window (R10, R17). -/
abbrev Word := BitVec 32

/-- A 64-bit value: LEN, BLOCK and the bit length (R34, R35, R101). -/
abbrev DWord := BitVec 64

end Sys2Proof
end

