-- ==== Sys2Proof/Syntax.lean ====
section
/-! DEFINITION. The instructions: one constructor per row of spec/opcode_table.json, host transactions
and sequencer micro-operations alike (30_encoding.md R78 to R80). -/

namespace Sys2Proof

/-- The 59 rows of the opcode table. -/
inductive Instr where
  /-- `NOP`: WR CMD, 0x00000000 (R244). -/
  | nop
  /-- `START`: WR CMD, 0x00000001 (R240, R241). -/
  | start
  /-- `CLEAR_ERR`: WR CMD, 0x00000002 (R245). -/
  | clearErr
  /-- `CMD.ILLEGAL`: WR CMD, w for a reserved command word w (R246). -/
  | cmdIllegal (w : Word)
  /-- `RD`: a read at offset `off`; the DATA field is carried and ignored (R78, R230). -/
  | rd (off : BitVec 6) (data : Word)
  /-- `WR.LEN_LO` (R233). -/
  | wrLenLo (v : Word)
  /-- `WR.LEN_HI` (R233). -/
  | wrLenHi (v : Word)
  /-- `WR.RO`: a write at a read-only, reserved or misaligned offset (R232). -/
  | wrRo (off : BitVec 6) (v : Word)
  /-- `LOAD` (R125). -/
  | load
  -- `ROUND1.0` to `ROUND1.15` (R185).
  | round1_0
  | round1_1
  | round1_2
  | round1_3
  | round1_4
  | round1_5
  | round1_6
  | round1_7
  | round1_8
  | round1_9
  | round1_10
  | round1_11
  | round1_12
  | round1_13
  | round1_14
  | round1_15
  -- `ROUND2.0` to `ROUND2.15` (R186).
  | round2_0
  | round2_1
  | round2_2
  | round2_3
  | round2_4
  | round2_5
  | round2_6
  | round2_7
  | round2_8
  | round2_9
  | round2_10
  | round2_11
  | round2_12
  | round2_13
  | round2_14
  | round2_15
  -- `ROUND3.0` to `ROUND3.15` (R187).
  | round3_0
  | round3_1
  | round3_2
  | round3_3
  | round3_4
  | round3_5
  | round3_6
  | round3_7
  | round3_8
  | round3_9
  | round3_10
  | round3_11
  | round3_12
  | round3_13
  | round3_14
  | round3_15
  /-- `ACCUM` (R210). -/
  | accum
  /-- `FINAL` (R215). -/
  | final
  deriving DecidableEq, Repr

/-- A host transaction record (RW, OFF, DATA); `write` is RW = 1 (R78). -/
structure HostTxn where
  write : Bool
  off   : BitVec 6
  data  : Word
  deriving DecidableEq, Repr

/-- The three rounds of the round engine (R10, R17). -/
inductive Round where
  | one
  | two
  | three
  deriving DecidableEq, Repr

/-- The agent that performs an instruction (R1, R251). -/
inductive Agent where
  | host
  | engine
  deriving DecidableEq, Repr

end Sys2Proof
end

