-- ==== Sys2Proof/Decode.lean ====
section
/-! DEFINITION. The decoder, total on every host record and every sequencer word, and after it the
encoder (30_encoding.md R71, R72, R78 to R84). -/

namespace Sys2Proof

/-- What the hardware decodes: a packed host record {RW[38], OFF[37:32], DATA[31:0]} (R78), or the
sequencer word {PHASE[8:6], STEP[5:0]} (R80). -/
inductive MachineWord where
  | host (rec : BitVec 39)
  | seq (w : BitVec 9)
  deriving DecidableEq, Repr

/-- Why a word selects no instruction. -/
inductive Reject where
  /-- SEQ = 0: no micro-operation is pending (R80). -/
  | noMicroOp
  /-- A word R80 marks "never held" (R83). -/
  | unreachableSequencerWord
  deriving DecidableEq, Repr

/-- The packing of a record, RW on top (R78). -/
def HostTxn.pack (t : HostTxn) : BitVec 39 :=
  (BitVec.ofBool t.write ++ t.off ++ t.data : BitVec (1 + 6 + 32))

/-- The record a packed word stands for (R78). -/
def HostTxn.unpack (w : BitVec 39) : HostTxn :=
  { write := w.getLsbD 38, off := w.extractLsb' 32 6, data := w.extractLsb' 0 32 }

/-- A write of `w` to CMD, decoded on all 32 bits; w[31:4] ≠ 0 or w[3:0] ≥ 3 is illegal, and that check
comes first (R72, R234, R273). -/
def decodeCommand (w : Word) : Instr :=
  if w.extractLsb' 4 28 ≠ 0 ∨ 3 ≤ (w.extractLsb' 0 4).toNat then .cmdIllegal w
  else if w = 0 then .nop
  else if w = 1 then .start
  else .clearErr

/-- Decoding a transaction is total (R79). -/
def decodeHost (t : HostTxn) : Instr :=
  if t.write then
    if t.off = 0x00 then decodeCommand t.data
    else if t.off = 0x10 then .wrLenLo t.data
    else if t.off = 0x14 then .wrLenHi t.data
    else .wrRo t.off t.data
  else .rd t.off t.data

/-- Step j of round 1: SEQ = {010, 00jjjj} (R80, R185). -/
def roundOneInstrs : Vector Instr 16 :=
  #v[.round1_0, .round1_1, .round1_2, .round1_3, .round1_4, .round1_5, .round1_6, .round1_7,
    .round1_8, .round1_9, .round1_10, .round1_11, .round1_12, .round1_13, .round1_14, .round1_15]

/-- Step j of round 2: SEQ = {010, 01jjjj} (R80, R186). -/
def roundTwoInstrs : Vector Instr 16 :=
  #v[.round2_0, .round2_1, .round2_2, .round2_3, .round2_4, .round2_5, .round2_6, .round2_7,
    .round2_8, .round2_9, .round2_10, .round2_11, .round2_12, .round2_13, .round2_14, .round2_15]

/-- Step j of round 3: SEQ = {010, 10jjjj} (R80, R187). -/
def roundThreeInstrs : Vector Instr 16 :=
  #v[.round3_0, .round3_1, .round3_2, .round3_3, .round3_4, .round3_5, .round3_6, .round3_7,
    .round3_8, .round3_9, .round3_10, .round3_11, .round3_12, .round3_13, .round3_14, .round3_15]

/-- The PHASE field of a sequencer word (R75, R80). -/
def seqPhase (w : BitVec 9) : BitVec 3 := w.extractLsb' 6 3

/-- The STEP field of a sequencer word (R75, R80). -/
def seqStep (w : BitVec 9) : BitVec 6 := w.extractLsb' 0 6

/-- The ROUND a STEP value selects: STEP[5:4] is the round, STEP[3:0] is j; 11xxxx is never held
(R80, R81). -/
def decodeRound (st : BitVec 6) : Except Reject Instr :=
  let j : Fin 16 := (st.extractLsb' 0 4).toFin
  if st.extractLsb' 4 2 = 0 then .ok (roundOneInstrs.get j)
  else if st.extractLsb' 4 2 = 1 then .ok (roundTwoInstrs.get j)
  else if st.extractLsb' 4 2 = 2 then .ok (roundThreeInstrs.get j)
  else .error .unreachableSequencerWord

/-- The micro-operation a sequencer word selects (R80); "never held" words are rejected by name (R83). -/
def decodeSeq (w : BitVec 9) : Except Reject Instr :=
  if seqPhase w = 2 then decodeRound (seqStep w)
  else if seqStep w ≠ 0 then .error .unreachableSequencerWord
  else if seqPhase w = 0 then .error .noMicroOp
  else if seqPhase w = 1 then .ok .load
  else if seqPhase w = 3 then .ok .accum
  else if seqPhase w = 4 then .ok .final
  else .error .unreachableSequencerWord

/-- The decoder over both kinds of word. -/
def decode : MachineWord → Except Reject Instr
  | .host rec => .ok (decodeHost (HostTxn.unpack rec))
  | .seq w => decodeSeq w

/-- A write record at `off`. -/
def writeRecord (off : BitVec 6) (v : Word) : MachineWord :=
  .host (HostTxn.pack { write := true, off := off, data := v })

/-- The word of an instruction: host rows by R72 and R78, micro-operations by the opcode table's words. -/
def encode : Instr → MachineWord
  | .nop => writeRecord 0x00 0x00000000
  | .start => writeRecord 0x00 0x00000001
  | .clearErr => writeRecord 0x00 0x00000002
  | .cmdIllegal w => writeRecord 0x00 w
  | .rd off data => .host (HostTxn.pack { write := false, off := off, data := data })
  | .wrLenLo v => writeRecord 0x10 v
  | .wrLenHi v => writeRecord 0x14 v
  | .wrRo off v => writeRecord off v
  | .load => .seq 0x040
  | .round1_0 => .seq 0x080
  | .round1_1 => .seq 0x081
  | .round1_2 => .seq 0x082
  | .round1_3 => .seq 0x083
  | .round1_4 => .seq 0x084
  | .round1_5 => .seq 0x085
  | .round1_6 => .seq 0x086
  | .round1_7 => .seq 0x087
  | .round1_8 => .seq 0x088
  | .round1_9 => .seq 0x089
  | .round1_10 => .seq 0x08a
  | .round1_11 => .seq 0x08b
  | .round1_12 => .seq 0x08c
  | .round1_13 => .seq 0x08d
  | .round1_14 => .seq 0x08e
  | .round1_15 => .seq 0x08f
  | .round2_0 => .seq 0x090
  | .round2_1 => .seq 0x091
  | .round2_2 => .seq 0x092
  | .round2_3 => .seq 0x093
  | .round2_4 => .seq 0x094
  | .round2_5 => .seq 0x095
  | .round2_6 => .seq 0x096
  | .round2_7 => .seq 0x097
  | .round2_8 => .seq 0x098
  | .round2_9 => .seq 0x099
  | .round2_10 => .seq 0x09a
  | .round2_11 => .seq 0x09b
  | .round2_12 => .seq 0x09c
  | .round2_13 => .seq 0x09d
  | .round2_14 => .seq 0x09e
  | .round2_15 => .seq 0x09f
  | .round3_0 => .seq 0x0a0
  | .round3_1 => .seq 0x0a1
  | .round3_2 => .seq 0x0a2
  | .round3_3 => .seq 0x0a3
  | .round3_4 => .seq 0x0a4
  | .round3_5 => .seq 0x0a5
  | .round3_6 => .seq 0x0a6
  | .round3_7 => .seq 0x0a7
  | .round3_8 => .seq 0x0a8
  | .round3_9 => .seq 0x0a9
  | .round3_10 => .seq 0x0aa
  | .round3_11 => .seq 0x0ab
  | .round3_12 => .seq 0x0ac
  | .round3_13 => .seq 0x0ad
  | .round3_14 => .seq 0x0ae
  | .round3_15 => .seq 0x0af
  | .accum => .seq 0x0c0
  | .final => .seq 0x100

/-- The round and the step j within it of a ROUND micro-operation (R80, R181). -/
def Instr.roundOf : Instr → Option (Round × Fin 16)
  | .round1_0 => some (.one, 0)
  | .round1_1 => some (.one, 1)
  | .round1_2 => some (.one, 2)
  | .round1_3 => some (.one, 3)
  | .round1_4 => some (.one, 4)
  | .round1_5 => some (.one, 5)
  | .round1_6 => some (.one, 6)
  | .round1_7 => some (.one, 7)
  | .round1_8 => some (.one, 8)
  | .round1_9 => some (.one, 9)
  | .round1_10 => some (.one, 10)
  | .round1_11 => some (.one, 11)
  | .round1_12 => some (.one, 12)
  | .round1_13 => some (.one, 13)
  | .round1_14 => some (.one, 14)
  | .round1_15 => some (.one, 15)
  | .round2_0 => some (.two, 0)
  | .round2_1 => some (.two, 1)
  | .round2_2 => some (.two, 2)
  | .round2_3 => some (.two, 3)
  | .round2_4 => some (.two, 4)
  | .round2_5 => some (.two, 5)
  | .round2_6 => some (.two, 6)
  | .round2_7 => some (.two, 7)
  | .round2_8 => some (.two, 8)
  | .round2_9 => some (.two, 9)
  | .round2_10 => some (.two, 10)
  | .round2_11 => some (.two, 11)
  | .round2_12 => some (.two, 12)
  | .round2_13 => some (.two, 13)
  | .round2_14 => some (.two, 14)
  | .round2_15 => some (.two, 15)
  | .round3_0 => some (.three, 0)
  | .round3_1 => some (.three, 1)
  | .round3_2 => some (.three, 2)
  | .round3_3 => some (.three, 3)
  | .round3_4 => some (.three, 4)
  | .round3_5 => some (.three, 5)
  | .round3_6 => some (.three, 6)
  | .round3_7 => some (.three, 7)
  | .round3_8 => some (.three, 8)
  | .round3_9 => some (.three, 9)
  | .round3_10 => some (.three, 10)
  | .round3_11 => some (.three, 11)
  | .round3_12 => some (.three, 12)
  | .round3_13 => some (.three, 13)
  | .round3_14 => some (.three, 14)
  | .round3_15 => some (.three, 15)
  | .nop | .start | .clearErr | .cmdIllegal _ | .rd _ _ | .wrLenLo _ | .wrLenHi _ | .wrRo _ _ => none
  | .load | .accum | .final => none

/-- Who performs an instruction: the host its transactions, the engine its micro-operations (R251). -/
def Instr.agent : Instr → Agent
  | .nop | .start | .clearErr | .cmdIllegal _ | .rd _ _ | .wrLenLo _ | .wrLenHi _ | .wrRo _ _ => .host
  | .load | .accum | .final => .engine
  | .round1_0 | .round1_1 | .round1_2 | .round1_3 | .round1_4 | .round1_5 | .round1_6 | .round1_7 | .round1_8 | .round1_9 | .round1_10 | .round1_11 | .round1_12 | .round1_13 | .round1_14 | .round1_15 => .engine
  | .round2_0 | .round2_1 | .round2_2 | .round2_3 | .round2_4 | .round2_5 | .round2_6 | .round2_7 | .round2_8 | .round2_9 | .round2_10 | .round2_11 | .round2_12 | .round2_13 | .round2_14 | .round2_15 => .engine
  | .round3_0 | .round3_1 | .round3_2 | .round3_3 | .round3_4 | .round3_5 | .round3_6 | .round3_7 | .round3_8 | .round3_9 | .round3_10 | .round3_11 | .round3_12 | .round3_13 | .round3_14 | .round3_15 => .engine

/-- The machine word behind `nbits` table bits (log entry 10): a sequencer word has 9 bits, so rows of 9
to 32 bits are sequencer words and must be 0 above bit 8; any other row is a host record of 39 bits. -/
def tableWord (nbits w : Nat) : Option MachineWord :=
  if 9 ≤ nbits ∧ nbits ≤ 32 then
    if w < 2 ^ 9 then some (.seq (BitVec.ofNat 9 w)) else none
  else if w < 2 ^ 39 then some (.host (BitVec.ofNat 39 w))
  else none

/-- The instruction the decoder reads from a word numbered as spec/opcode_table.json numbers it. -/
def decodeTableWord (nbits w : Nat) : Option Instr :=
  match tableWord nbits w with
  | some mw => (decode mw).toOption
  | none => none

end Sys2Proof
end

