-- ==== Sys2Proof/Machine/State.lean ====
section
/-! DEFINITION. The state of the machine as plain data, the reasons a step can stop, and reset
(10_state.md, 70_reset_and_hazards.md R301). -/

namespace Sys2Proof.Machine

/-- STATE (R32). The value 3 is never held and has no constructor (93, row "STATE = 3"). -/
inductive Status where
  /-- 0: no computation has been started since reset. -/
  | idle
  /-- 1: a computation is in progress. -/
  | busy
  /-- 2: the last computation finished and its digest is readable. -/
  | done
  deriving DecidableEq, Repr

/-- ERR_CAUSE (R38, R271). Codes 6 to 15 are never recorded and have no constructor (93). -/
inductive ErrCause where
  /-- 0: NONE, the value while ERR = 0. -/
  | noCause
  /-- 1: ILLEGAL_CMD (R246). -/
  | illegalCmd
  /-- 2: START_BUSY (R241). -/
  | startBusy
  /-- 3: LEN_RANGE (R241). -/
  | lenRange
  /-- 4: WRITE_BUSY (R233). -/
  | writeBusy
  /-- 5: BAD_ACCESS (R232). -/
  | badAccess
  deriving DecidableEq, Repr

/-- Four 32-bit registers: A, B, C, D of the state accumulator (R22), or a, b, c, d of the working
copy (R25). -/
structure Quad where
  a : Word
  b : Word
  c : Word
  d : Word
  deriving DecidableEq, Repr

/-- The message memory: bytes by message offset, offsets strictly rising (R50; `Memory.wf`). -/
abbrev Memory := List Host.Cell

/-- What happens next, one entry a step: the interleaving of R251 as plain data (log entry 1). -/
inductive Event where
  /-- One host transaction (R78). -/
  | host (t : HostTxn)
  /-- One engine step; the engine is quiescent unless STATE = BUSY (R250). -/
  | engine
  /-- `POLL off, mask, value`: reads of `off` until (read & mask) = value (R85; log entry 3). -/
  | poll (off : BitVec 6) (mask value : Word)
  /-- The reset input, with the host transaction of the same clock, if any, which is lost
  (R274, R300). -/
  | reset (lost : Option HostTxn)
  /-- The host binds offset 0 of the message port to a buffer holding `bytes` (R50, R253). -/
  | bindMessage (bytes : List Byte)
  /-- The host writes one byte of its message memory (R66; a 61-bit offset suffices, R51). -/
  | writeMessage (off : BitVec 61) (b : Byte)
  deriving DecidableEq, Repr

/-- The machine: the engine state of R20, the message memory of R50, and the model's own `inbox`
and `replies`. -/
structure State where
  /-- A, B, C, D: the state accumulator (R22). -/
  acc : Quad
  /-- a, b, c, d: the working copy (R25). -/
  work : Quad
  /-- X[0..15]: the block buffer (R27). -/
  X : Vector Word 16
  /-- STATE (R32). -/
  status : Status
  /-- PHASE (R29, R33). -/
  phase : BitVec 3
  /-- STEP (R30). -/
  stepNo : BitVec 6
  /-- BLOCK (R34). -/
  block : BitVec 64
  /-- LEN (R35). -/
  len : BitVec 64
  /-- ERR (R37). -/
  err : Bool
  /-- ERR_CAUSE (R38). -/
  errCause : ErrCause
  /-- The caller's message memory (R50). -/
  msg : Memory
  /-- The model's own: the steps to come, first at the head (log entry 1). -/
  inbox : List Event
  /-- The model's own: the words returned by reads, newest first (R78; log entry 4). -/
  replies : List Word
  deriving DecidableEq, Repr

/-- Why the machine stops with a fault. Every fault is safe: nothing can be claimed past it. -/
inductive Fault where
  /-- Raised by an engine step on a sequencer word R80 marks "never held" (R83). Safe: no run
  reaches it. -/
  | unreachableSequencerWord
  /-- Raised by an engine step in BUSY with SEQ = 0, against R31 (i) (log entry 8). Safe: no run
  reaches it. -/
  | busyWithoutMicroOp
  /-- Raised by a host transaction that finds ERR_CAUSE ≠ 0 while ERR = 0, never held (R38; 93).
  Safe: no run reaches it. -/
  | errorRecordNeverHeld
  /-- Raised by LOAD when BLOCK or LEN lies outside the domain of the padded stream (R101, R106;
  log entry 8). Safe: no run reaches it. -/
  | loadOutsidePaddedStream
  /-- Raised by LOAD when the host has provided no byte at an offset below LEN (R66; log entry 6).
  Safe: the spec promises nothing then (R253). -/
  | messageByteAbsent
  deriving DecidableEq, Repr

/-- Why a step has no meaning in the model. -/
inductive Refusal where
  /-- Raised by `exec` for an instruction without a meaning. Safe; no arm raises it. -/
  | notModelled (mnemonic : String)
  /-- Raised by a host move that would change M[0..LEN-1] while BUSY: the model gives the host no
  such move (R66, R253, R310; 92 D30; log entry 7). Unsafe towards a host that breaks its duty. -/
  | messageChangedWhileBusy
  deriving DecidableEq, Repr

/-- Four zero registers: the reset value the model names for A to D and a to d (R24, R25;
log entry 5). -/
def Quad.zero : Quad := { a := 0, b := 0, c := 0, d := 0 }

/-- The machine right after reset (R301). A to D, a to d and X are unspecified there and 0 here
(R24; log entry 5); the message memory lists nothing (log entry 6). -/
def State.reset : State where
  acc := Quad.zero
  work := Quad.zero
  X := Vector.replicate 16 0
  status := .idle
  phase := 0
  stepNo := 0
  block := 0
  len := 0
  err := false
  errCause := .noCause
  msg := []
  inbox := []
  replies := []

end Sys2Proof.Machine
end

