-- ==== Sys2Proof/Machine/Flags.lean ====
section
/-! DEFINITION. The status record: field codes and the STATUS and SEQ layouts (30_encoding.md R73, R75).
The data path has no flags (10_state.md R40). -/

namespace Sys2Proof.Machine

/-- The STATE code (R32). -/
def Status.code : Status → BitVec 2
  | .idle => 0
  | .busy => 1
  | .done => 2

/-- The ERR_CAUSE code (R271). -/
def ErrCause.code : ErrCause → BitVec 4
  | .noCause => 0
  | .illegalCmd => 1
  | .startBusy => 2
  | .lenRange => 3
  | .writeBusy => 4
  | .badAccess => 5

/-- SEQ = {PHASE[2:0], STEP[5:0]}, the sequencer word (R28, R80). -/
def State.seq (s : State) : BitVec 9 := (s.phase ++ s.stepNo : BitVec (3 + 6))

/-- The STATUS register: {24'b0, ERR_CAUSE[3:0], 1'b0, ERR, STATE[1:0]} (R73). -/
def statusWord (s : State) : Word :=
  (0#24 ++ s.errCause.code ++ 0#1 ++ BitVec.ofBool s.err ++ s.status.code : BitVec (24 + 4 + 1 + 1 + 2))

/-- The SEQ register: {23'b0, PHASE[2:0], STEP[5:0]} (R75). -/
def seqWord (s : State) : Word := (0#23 ++ s.seq : BitVec (23 + 9))

/-- ERR_CAUSE is 0 whenever ERR = 0 (R38); a record that breaks it is never held (93). -/
def errorRecordHeld (s : State) : Bool := s.err || s.errCause == .noCause

end Sys2Proof.Machine
end

