-- ==== Sys2Proof/Machine/Arith.lean ====
section
/-! DEFINITION. The 32-bit modular adder and the 32-bit left rotation (43_step_functions.md R160 to R162). -/

namespace Sys2Proof.Machine

/-- x +32 y = (x + y) mod 2^32; the carry out of bit 31 is discarded (R160, R161). -/
def add32 (x y : Word) : Word := BitVec.ofNat 32 ((x.toNat + y.toNat) % 2 ^ 32)

/-- rotl32(v, s), the circular left rotation by 0 ≤ s ≤ 31 (R162). -/
def rotl32 (v : Word) (s : Nat) : Word := if s = 0 then v else (v <<< s) ||| (v >>> (32 - s))

end Sys2Proof.Machine
end

