-- ==== Sys2Proof/Machine/Nonlinear.lean ====
section
/-! DEFINITION. The nonlinear functions F, G, H (42_nonlinear.md). -/

namespace Sys2Proof.Machine

/-- F, bitwise conditional select (R141). -/
def F (x y z : Word) : Word := (x &&& y) ||| (~~~x &&& z)

/-- G, bitwise majority (R142). -/
def G (x y z : Word) : Word := (x &&& y) ||| (x &&& z) ||| (y &&& z)

/-- H, bitwise parity (R143). -/
def H (x y z : Word) : Word := x ^^^ y ^^^ z

/-- The nonlinear function of a round: F, G, H for rounds 1, 2, 3. -/
def nonlinear : Round → Word → Word → Word → Word
  | .one => F
  | .two => G
  | .three => H

end Sys2Proof.Machine
end

