-- ==== Sys2Proof/Machine/StepFunctions.lean ====
section
/-! DEFINITION. The round constants and the step functions T1, T2, T3 (43_step_functions.md R163 to R167). -/

namespace Sys2Proof.Machine

/-- K1 = 0 (R164). -/
def K1 : Word := 0x00000000

/-- K2 (R164). -/
def K2 : Word := 0x5A827999

/-- K3 (R164). -/
def K3 : Word := 0x6ED9EBA1

/-- T1, the round 1 step (R165). -/
def T1 (p q u v w : Word) (s : Nat) : Word := rotl32 (add32 (add32 p (F q u v)) w) s

/-- T2, the round 2 step (R166). -/
def T2 (p q u v w : Word) (s : Nat) : Word := rotl32 (add32 (add32 (add32 p (G q u v)) w) K2) s

/-- T3, the round 3 step (R167). -/
def T3 (p q u v w : Word) (s : Nat) : Word := rotl32 (add32 (add32 (add32 p (H q u v)) w) K3) s

/-- The step function of a round. -/
def stepFunction : Round → Word → Word → Word → Word → Word → Nat → Word
  | .one => T1
  | .two => T2
  | .three => T3

end Sys2Proof.Machine
end

