-- ==== Sys2Proof/Machine/Operands.lean ====
section
/-! DEFINITION. Operand assembly: the register window's offsets (30_encoding.md R70), and the operands of
a ROUND micro-operation, all fixed functions of STEP (R81, R26, R180, R181). -/

namespace Sys2Proof.Machine

/-! ## Offsets of the register window (R70) -/

def offCmd : BitVec 6 := 0x00
def offStatus : BitVec 6 := 0x04
def offSeq : BitVec 6 := 0x08
def offLenLo : BitVec 6 := 0x10
def offLenHi : BitVec 6 := 0x14
def offBlockLo : BitVec 6 := 0x18
def offBlockHi : BitVec 6 := 0x1C
def offDigest0 : BitVec 6 := 0x20
def offDigest1 : BitVec 6 := 0x24
def offDigest2 : BitVec 6 := 0x28
def offDigest3 : BitVec 6 := 0x2C

/-! ## Roles of the working registers (R26) -/

/-- The active register of a step: the one it writes. -/
inductive Active where
  | a
  | d
  | c
  | b
  deriving DecidableEq, Repr

/-- The active register of step j, by j mod 4 (R26). -/
def activeOf (j : Nat) : Active :=
  match j % 4 with
  | 0 => .a
  | 1 => .d
  | 2 => .c
  | _ => .b

/-- The role tuple (p, q, u, v) the active register names (R26, R163), in the fields a, b, c, d. -/
def Quad.roles (q : Quad) : Active → Quad
  | .a => { a := q.a, b := q.b, c := q.c, d := q.d }
  | .d => { a := q.d, b := q.a, c := q.b, d := q.c }
  | .c => { a := q.c, b := q.d, c := q.a, d := q.b }
  | .b => { a := q.b, b := q.c, c := q.d, d := q.a }

/-- Write the active register only (R25, R26). -/
def Quad.write (q : Quad) (v : Word) : Active → Quad
  | .a => { q with a := v }
  | .d => { q with d := v }
  | .c => { q with c := v }
  | .b => { q with b := v }

/-! ## Schedules (R180) -/

/-- IDX1, IDX2, IDX3: the word index of step j. -/
def wordIndex : Round → Vector (Fin 16) 16
  | .one => #v[0, 1, 2, 3, 4, 5, 6, 7, 8, 9, 10, 11, 12, 13, 14, 15]
  | .two => #v[0, 4, 8, 12, 1, 5, 9, 13, 2, 6, 10, 14, 3, 7, 11, 15]
  | .three => #v[0, 8, 4, 12, 2, 10, 6, 14, 1, 9, 5, 13, 3, 11, 7, 15]

/-- ROT1, ROT2, ROT3: the rotation amounts, by j mod 4. -/
def rotations : Round → Vector Nat 4
  | .one => #v[3, 7, 11, 19]
  | .two => #v[3, 5, 9, 13]
  | .three => #v[3, 9, 11, 15]

/-- The rotation amount of step j: ROTr[j mod 4]. -/
def rotation (r : Round) (j : Fin 16) : Nat :=
  (rotations r).get ⟨j.val % 4, Nat.mod_lt _ (by decide)⟩

/-! ## The full step table (R181) -/

/-- One row of R181: the active register, the function, the word index, the rotation, the constant. -/
structure StepRow where
  active : Active
  round  : Round
  word   : Fin 16
  rot    : Nat
  k      : Word
  deriving DecidableEq, Repr

/-- R181, s = 0 to 15. -/
def stepRows1 : List StepRow :=
  [⟨.a, .one, 0, 3, 0⟩, ⟨.d, .one, 1, 7, 0⟩, ⟨.c, .one, 2, 11, 0⟩, ⟨.b, .one, 3, 19, 0⟩,
   ⟨.a, .one, 4, 3, 0⟩, ⟨.d, .one, 5, 7, 0⟩, ⟨.c, .one, 6, 11, 0⟩, ⟨.b, .one, 7, 19, 0⟩,
   ⟨.a, .one, 8, 3, 0⟩, ⟨.d, .one, 9, 7, 0⟩, ⟨.c, .one, 10, 11, 0⟩, ⟨.b, .one, 11, 19, 0⟩,
   ⟨.a, .one, 12, 3, 0⟩, ⟨.d, .one, 13, 7, 0⟩, ⟨.c, .one, 14, 11, 0⟩, ⟨.b, .one, 15, 19, 0⟩]

/-- R181, s = 16 to 31. -/
def stepRows2 : List StepRow :=
  [⟨.a, .two, 0, 3, K2⟩, ⟨.d, .two, 4, 5, K2⟩, ⟨.c, .two, 8, 9, K2⟩, ⟨.b, .two, 12, 13, K2⟩,
   ⟨.a, .two, 1, 3, K2⟩, ⟨.d, .two, 5, 5, K2⟩, ⟨.c, .two, 9, 9, K2⟩, ⟨.b, .two, 13, 13, K2⟩,
   ⟨.a, .two, 2, 3, K2⟩, ⟨.d, .two, 6, 5, K2⟩, ⟨.c, .two, 10, 9, K2⟩, ⟨.b, .two, 14, 13, K2⟩,
   ⟨.a, .two, 3, 3, K2⟩, ⟨.d, .two, 7, 5, K2⟩, ⟨.c, .two, 11, 9, K2⟩, ⟨.b, .two, 15, 13, K2⟩]

/-- R181, s = 32 to 47. -/
def stepRows3 : List StepRow :=
  [⟨.a, .three, 0, 3, K3⟩, ⟨.d, .three, 8, 9, K3⟩, ⟨.c, .three, 4, 11, K3⟩, ⟨.b, .three, 12, 15, K3⟩,
   ⟨.a, .three, 2, 3, K3⟩, ⟨.d, .three, 10, 9, K3⟩, ⟨.c, .three, 6, 11, K3⟩, ⟨.b, .three, 14, 15, K3⟩,
   ⟨.a, .three, 1, 3, K3⟩, ⟨.d, .three, 9, 9, K3⟩, ⟨.c, .three, 5, 11, K3⟩, ⟨.b, .three, 13, 15, K3⟩,
   ⟨.a, .three, 3, 3, K3⟩, ⟨.d, .three, 11, 9, K3⟩, ⟨.c, .three, 7, 11, K3⟩, ⟨.b, .three, 15, 15, K3⟩]

/-- The full step table, s = 0 to 47 (R181). -/
def stepTable : List StepRow := stepRows1 ++ stepRows2 ++ stepRows3

end Sys2Proof.Machine
end

