-- ==== Sys2Proof/Config.lean ====
section
/-! DEFINITION. What the spec leaves open: its named parameters (92_eei_decisions.md, "Named parameters";
log entry 12) and one free value (log entry 19). They are constants without a body: nothing can be proved
of their values. -/

namespace Sys2Proof

/-- The kinds of micro-operation; CYCLES_PER_STEP may differ per kind (92 D28, R320). -/
inductive MicroOpKind where
  | load
  | round
  | accum
  | final
  deriving DecidableEq, Repr

/-- The active level of the reset input. -/
inductive ResetLevel where
  | activeHigh
  | activeLow
  deriving DecidableEq, Repr, Inhabited

/-- RESET_POLARITY: the active level of reset, and whether it is synchronous (R300, 92 D13). -/
structure ResetInput where
  level : ResetLevel
  synchronous : Bool
  deriving DecidableEq, Repr, Inhabited

/-- REG_BASE: the platform address of offset 0x00 of the register window (R52, 92 D3). -/
opaque Config.regBase : Nat

/-- MSG_BINDING: the platform's map from message offset to memory location (R50, 92 D5). -/
opaque Config.msgBinding : Nat → Nat

/-- RESET_POLARITY (R300, 92 D13). -/
opaque Config.resetPolarity : ResetInput

/-- CYCLES_PER_STEP: clock cycles of one micro-operation of each kind; informative (R320, 92 D28). -/
opaque Config.cyclesPerStep : MicroOpKind → Nat

/-- DESIGN CHOICE (log entry 19): the bit length of a message longer than MAX_LEN, a free value. The source
is silent on it, and "Do not assume the low 64 bits of 8·L are used" (91_not_in_source.md). -/
opaque Config.bitlenBeyondMax : Nat → BitVec 64

end Sys2Proof
end

