-- ==== Sys2Proof/Machine/Codec.lean ====
section
/-! DEFINITION. The Byte-Length Codec and the Padder, as pure functions (40_codec_padder.md). -/

namespace Sys2Proof.Machine

/-- MAX_LEN = 2^61 − 1, the largest message length in bytes (R10, R11; 92 D6). -/
def maxLen : Nat := 2 ^ 61 - 1

/-- `encode_length`: byte k is bits [8k+7:8k], little-endian (R100). -/
def encodeLength (b : DWord) : List Byte :=
  [b.extractLsb' 0 8, b.extractLsb' 8 8, b.extractLsb' 16 8, b.extractLsb' 24 8,
   b.extractLsb' 32 8, b.extractLsb' 40 8, b.extractLsb' 48 8, b.extractLsb' 56 8]

/-- `bitlen(L) = 8 · L`, exact in 64 bits, for L ≤ MAX_LEN (R101). Above MAX_LEN the spec states no bit
length and START refuses L (R241): there, DESIGN CHOICE, it is a free value and no wrapped 8 · L
(91_not_in_source.md, 40_codec_padder.md; log entry 19). So the `padded` and `digest` of a longer byte list
are open too (R219 (iii) is for L ≤ MAX_LEN). -/
def bitlen (L : Nat) : DWord :=
  if L ≤ maxLen then BitVec.ofNat 64 (8 * L) else Config.bitlenBeyondMax L

/-- k, the number of zero bytes of the padding (R102). -/
def padZeros (L : Nat) : Nat := if L % 64 < 56 then 55 - L % 64 else 119 - L % 64

/-- `pad(L)`: 0x80 and k zero bytes (R102). -/
def pad (L : Nat) : List Byte := 0x80 :: List.replicate (padZeros L) 0x00

/-- `padded(M) = M ++ pad(L) ++ encode_length(bitlen(L))` (R104). -/
def padded (M : List Byte) : List Byte :=
  M ++ pad M.length ++ encodeLength (bitlen M.length)

/-- T(L), the padded length (R105). -/
def paddedLength (L : Nat) : Nat := L + 1 + padZeros L + 8

/-- N(L) = T(L) / 64, the number of blocks (R107). -/
def blockCount (L : Nat) : Nat := paddedLength L / 64

/-- P(M, L, i): byte i of the padded stream, generated on demand; only i < L reads the message (R106). -/
def paddedByte (M : Nat → Byte) (L i : Nat) : Byte :=
  if i < L then M i
  else if i = L then 0x80
  else if i < paddedLength L - 8 then 0x00
  else (encodeLength (bitlen L)).getD (i - (paddedLength L - 8)) 0x00

end Sys2Proof.Machine
end

