-- ==== Sys2Proof/Machine/Parser.lean ====
section
/-! DEFINITION. The Block Parser, as pure functions (41_block_parser.md R120 to R124). -/

namespace Sys2Proof.Machine

/-- Four bytes as a word, the first the least significant (R55, R120). -/
def wordOfBytes (b0 b1 b2 b3 : Byte) : Word := (b3 ++ b2 ++ b1 ++ b0 : BitVec (8 + 8 + 8 + 8))

/-- `word(B, j)` of a 64-byte block (R120). -/
def blockWord (B : List Byte) (j : Nat) : Word :=
  wordOfBytes (B.getD (4 * j) 0) (B.getD (4 * j + 1) 0) (B.getD (4 * j + 2) 0) (B.getD (4 * j + 3) 0)

/-- The sixteen words of block n of a padded buffer (R121). -/
def parseBlock (Q : List Byte) (n : Nat) : Vector Word 16 :=
  Vector.ofFn fun j => blockWord ((Q.drop (64 * n)).take 64) j.val

/-- `parse(Q)`: the blocks of a padded buffer, in order (R121, R123). -/
def parse (Q : List Byte) : List (Vector Word 16) :=
  (List.range (Q.length / 64)).map (parseBlock Q)

/-- Xword(M, L, n, j): the hardware word function (R124). -/
def xword (M : Nat → Byte) (L n j : Nat) : Word :=
  wordOfBytes (paddedByte M L (64 * n + 4 * j)) (paddedByte M L (64 * n + 4 * j + 1))
    (paddedByte M L (64 * n + 4 * j + 2)) (paddedByte M L (64 * n + 4 * j + 3))

end Sys2Proof.Machine
end

