-- ==== Sys2Proof/Machine/Ops.lean ====
section
/-! DEFINITION. The named operations over the message memory and the registers, and recording a
host-protocol error, the block's only counterpart of an exception (60_exceptions.md R270, R272, R276). -/

namespace Sys2Proof.Machine

/-! ## Message memory (20_memory.md R50) -/

/-- What an offset the host has not provided reads as: no value (log entry 6). -/
def unlisted : Option Byte := none

/-- The canonical form: offsets strictly rising, no entry equal to `unlisted`. -/
def Memory.wf : Memory → Bool
  | [] => true
  | (a, b) :: m => some b != unlisted && m.all (fun cell => decide (a < cell.1)) && Memory.wf m

/-- MemRead(i, 1): the byte at message offset i (R14, R50). -/
def Memory.read : Memory → Nat → Option Byte
  | [], _ => unlisted
  | (a, b) :: m, i => if i = a then some b else Memory.read m i

/-- The host's write of one byte of its message memory; it keeps the canonical form. -/
def Memory.write : Memory → Nat → Byte → Memory
  | [], i, v => if some v = unlisted then [] else [(i, v)]
  | (a, b) :: m, i, v =>
    if i < a then (if some v = unlisted then (a, b) :: m else (i, v) :: (a, b) :: m)
    else if i = a then (if some v = unlisted then m else (i, v) :: m)
    else (a, b) :: Memory.write m i v

/-- The cells of a byte sequence placed at offset i onwards. -/
def Memory.ofBytesAt : Nat → List Byte → Memory
  | _, [] => []
  | i, b :: bs =>
    if some b = unlisted then Memory.ofBytesAt (i + 1) bs else (i, b) :: Memory.ofBytesAt (i + 1) bs

/-- The memory that holds a message from offset 0 (R50). -/
def Memory.ofBytes (bs : List Byte) : Memory := Memory.ofBytesAt 0 bs

/-- The message as a function of the offset; only offsets `blockPresent` has checked are used. -/
def Memory.byteAt (m : Memory) (i : Nat) : Byte := (m.read i).getD 0

/-- Every message byte of block n, the offsets i < L in 64n .. 64n + 63, has been provided (R51, R66). -/
def blockPresent (m : Memory) (L n : Nat) : Bool :=
  (List.range 64).all fun k => decide (L ≤ 64 * n + k) || (m.read (64 * n + k)).isSome

/-! ## Updates of the state -/

/-- SEQ <- {phase, step} (R14, R28). -/
def State.setSeq (s : State) (phase : BitVec 3) (st : BitVec 6) : State :=
  { s with phase := phase, stepNo := st }

/-- LEN <- L (R35). -/
def State.setLen (s : State) (L : BitVec 64) : State := { s with len := L }

/-- The working copy <- q (R25). -/
def State.setWork (s : State) (q : Quad) : State := { s with work := q }

/-- The message memory <- m; a move of the host, never of the engine (R50, R253). -/
def State.setMsg (s : State) (m : Memory) : State := { s with msg := m }

/-- The steps to come <- es (log entry 1). -/
def State.setInbox (s : State) (es : List Event) : State := { s with inbox := es }

/-- Return one word to the host (R78). -/
def State.reply (s : State) (v : Word) : State := { s with replies := v :: s.replies }

/-! ## Errors -/

/-- `raise HostError(c)`: record the first cause; no control transfer and no other effect
(R14, R270, R272). -/
def State.raiseHostError (s : State) (c : ErrCause) : State :=
  if s.err then s else { s with err := true, errCause := c }

/-- The only recovery from a recorded error: ERR <- 0, ERR_CAUSE <- 0 (R245, R277). -/
def State.clearHostError (s : State) : State := { s with err := false, errCause := .noCause }

/-! ## Register reads -/

/-- DIGESTk: word w of A to D in DONE, 0 in any other STATE (R36). -/
def digestView (s : State) (w : Word) : Word := if s.status = .done then w else 0

/-- RegRead(off) (R230). -/
def regRead (s : State) (off : BitVec 6) : Word :=
  if off = offStatus then statusWord s
  else if off = offSeq then seqWord s
  else if off = offLenLo then s.len.extractLsb' 0 32
  else if off = offLenHi then s.len.extractLsb' 32 32
  else if off = offBlockLo then s.block.extractLsb' 0 32
  else if off = offBlockHi then s.block.extractLsb' 32 32
  else if off = offDigest0 then digestView s s.acc.a
  else if off = offDigest1 then digestView s s.acc.b
  else if off = offDigest2 then digestView s s.acc.c
  else if off = offDigest3 then digestView s s.acc.d
  else 0

/-! ## Four registers at once -/

/-- The initial value of A, B, C, D: IV_A, IV_B, IV_C, IV_D (R10, R18, R23). -/
def iv : Quad := { a := 0x67452301, b := 0xefcdab89, c := 0x98badcfe, d := 0x10325476 }

/-- The four additions of ACCUM (R210, R212). -/
def Quad.add (p q : Quad) : Quad :=
  { a := add32 p.a q.a, b := add32 p.b q.b, c := add32 p.c q.c, d := add32 p.d q.d }

end Sys2Proof.Machine
end

