-- ==== Sys2Proof/Machine/Commands.lean ====
section
/-! DEFINITION. The meanings of the writes to CMD: NOP, START, CLEAR_ERR, CMD.ILLEGAL
(46_host_interface.md R240 to R246). -/

namespace Sys2Proof.Machine

/-- NOP: no state changes, in every STATE (R244). -/
def execNop (s : State) : Host.Outcome State Fault Refusal := .next s

/-- What an accepted START writes: the IV into A to D, BLOCK <- 0, PHASE <- LOAD, STEP <- 0,
STATE <- BUSY (R240). -/
def State.beginRun (s : State) : State :=
  { s with acc := iv, block := 0, phase := 1, stepNo := 0, status := .busy }

/-- START: refused with START_BUSY or LEN_RANGE, in this order, else begun (R240, R241). -/
def execStart (s : State) : Host.Outcome State Fault Refusal :=
  if s.status = .busy then .next (s.raiseHostError .startBusy)
  else if maxLen < s.len.toNat then .next (s.raiseHostError .lenRange)
  else .next s.beginRun

/-- CLEAR_ERR: ERR <- 0, ERR_CAUSE <- 0, in every STATE (R245). -/
def execClearErr (s : State) : Host.Outcome State Fault Refusal := .next s.clearHostError

/-- An illegal command word: ILLEGAL_CMD and nothing else (R246); which words are illegal is the
decoder's (R72, R273). -/
def execCmdIllegal (_w : Word) (s : State) : Host.Outcome State Fault Refusal :=
  .next (s.raiseHostError .illegalCmd)

end Sys2Proof.Machine
end

