-- ==== Sys2Proof/Machine/MicroOps.lean ====
section
/-! DEFINITION. The meanings of LOAD, ACCUM and FINAL (41_block_parser.md R125,
45_accumulator_finalizer.md R210, R215). -/

namespace Sys2Proof.Machine

/-- What LOAD writes: X, the working copy of A to D, and the sequencer, all together (R125, R126). -/
def State.loadBlock (s : State) (X : Vector Word 16) : State :=
  { s with X := X, work := s.acc, phase := 2, stepNo := 0 }

/-- LOAD: parse block BLOCK of the padded message into X and take the working copy (R125). It faults
only outside the domain of the padded stream (log entry 8) or on a message byte the host has not
provided (log entry 6). -/
def execLoad (s : State) : Host.Outcome State Fault Refusal :=
  let L := s.len.toNat
  let n := s.block.toNat
  if maxLen < L ∨ blockCount L ≤ n then .fault .loadOutsidePaddedStream
  else if blockPresent s.msg L n then
    .next (s.loadBlock (Vector.ofFn fun j => xword s.msg.byteAt L n j.val))
  else .fault .messageByteAbsent

/-- ACCUM: A to D +32 a to d, BLOCK + 1, then LOAD of the next block or FINAL (R210). -/
def execAccum (s : State) : Host.Outcome State Fault Refusal :=
  .next { s with
    acc := s.acc.add s.work
    block := s.block + 1
    phase := if s.block.toNat + 1 < blockCount s.len.toNat then 1 else 4
    stepNo := 0 }

/-- FINAL: STATE <- DONE, PHASE <- NONE, STEP <- 0 (R215). -/
def execFinal (s : State) : Host.Outcome State Fault Refusal :=
  .next { s with status := .done, phase := 0, stepNo := 0 }

end Sys2Proof.Machine
end

