-- ==== Sys2Proof/Machine/Registers.lean ====
section
/-! DEFINITION. The meanings of the other host transactions: RD, WR.LEN_LO, WR.LEN_HI, WR.RO
(46_host_interface.md R230 to R233). -/

namespace Sys2Proof.Machine

/-- RD: return the register; no state of the block changes and DATA is ignored (R78, R230). -/
def execRd (off : BitVec 6) (_data : Word) (s : State) : Host.Outcome State Fault Refusal :=
  .next (s.reply (regRead s off))

/-- WR.LEN_LO: LEN[31:0] <- v, or WRITE_BUSY while BUSY (R233). -/
def execWrLenLo (v : Word) (s : State) : Host.Outcome State Fault Refusal :=
  if s.status = .busy then .next (s.raiseHostError .writeBusy)
  else .next (s.setLen (s.len.extractLsb' 32 32 ++ v : BitVec (32 + 32)))

/-- WR.LEN_HI: LEN[63:32] <- v, or WRITE_BUSY while BUSY (R233). -/
def execWrLenHi (v : Word) (s : State) : Host.Outcome State Fault Refusal :=
  if s.status = .busy then .next (s.raiseHostError .writeBusy)
  else .next (s.setLen (v ++ s.len.extractLsb' 0 32 : BitVec (32 + 32)))

/-- WR.RO: BAD_ACCESS, always; the value is ignored (R232). -/
def execWrRo (_off : BitVec 6) (_v : Word) (s : State) : Host.Outcome State Fault Refusal :=
  .next (s.raiseHostError .badAccess)

end Sys2Proof.Machine
end

