-- ==== Sys2Proof/Machine/RoundEngine.lean ====
section
/-! DEFINITION. The ROUND operation shared by the 48 ROUND micro-operations (44_round_engine.md R184 to R187). -/

namespace Sys2Proof.Machine

/-- The working copy after step j of round r: the active register takes the step function of the four
roles, the scheduled word and the scheduled rotation (R185 to R187). -/
def roundWork (r : Round) (j : Fin 16) (X : Vector Word 16) (q : Quad) : Quad :=
  let k := activeOf j.val
  let t := q.roles k
  q.write (stepFunction r t.a t.b t.c t.d (X.get ((wordIndex r).get j)) (rotation r j)) k

/-- ROUND sequencing: the next step, or ACCUM after step 47 (R184). -/
def advanceRound (s : State) : State :=
  if s.stepNo.toNat < 47 then s.setSeq s.phase (s.stepNo + 1) else s.setSeq 3 0

/-- Step j of round r: the register write and the sequencing take effect together (R184). -/
def roundOp (r : Round) (j : Fin 16) (s : State) : State :=
  advanceRound (s.setWork (roundWork r j s.X s.work))

end Sys2Proof.Machine
end

