-- ==== Sys2Proof/Machine/Rounds.lean ====
section
/-! DEFINITION. The meanings of ROUND1.0 to ROUND3.15, one each, over the shared `roundOp`
(44_round_engine.md R185 to R187; R181 lists the 48 steps). -/

namespace Sys2Proof.Machine

/-- ROUND1.0: global step 0 (R185). -/
def execRound1_0 (s : State) : Host.Outcome State Fault Refusal := .next (roundOp .one 0 s)

/-- ROUND1.1: global step 1 (R185). -/
def execRound1_1 (s : State) : Host.Outcome State Fault Refusal := .next (roundOp .one 1 s)

/-- ROUND1.2: global step 2 (R185). -/
def execRound1_2 (s : State) : Host.Outcome State Fault Refusal := .next (roundOp .one 2 s)

/-- ROUND1.3: global step 3 (R185). -/
def execRound1_3 (s : State) : Host.Outcome State Fault Refusal := .next (roundOp .one 3 s)

/-- ROUND1.4: global step 4 (R185). -/
def execRound1_4 (s : State) : Host.Outcome State Fault Refusal := .next (roundOp .one 4 s)

/-- ROUND1.5: global step 5 (R185). -/
def execRound1_5 (s : State) : Host.Outcome State Fault Refusal := .next (roundOp .one 5 s)

/-- ROUND1.6: global step 6 (R185). -/
def execRound1_6 (s : State) : Host.Outcome State Fault Refusal := .next (roundOp .one 6 s)

/-- ROUND1.7: global step 7 (R185). -/
def execRound1_7 (s : State) : Host.Outcome State Fault Refusal := .next (roundOp .one 7 s)

/-- ROUND1.8: global step 8 (R185). -/
def execRound1_8 (s : State) : Host.Outcome State Fault Refusal := .next (roundOp .one 8 s)

/-- ROUND1.9: global step 9 (R185). -/
def execRound1_9 (s : State) : Host.Outcome State Fault Refusal := .next (roundOp .one 9 s)

/-- ROUND1.10: global step 10 (R185). -/
def execRound1_10 (s : State) : Host.Outcome State Fault Refusal := .next (roundOp .one 10 s)

/-- ROUND1.11: global step 11 (R185). -/
def execRound1_11 (s : State) : Host.Outcome State Fault Refusal := .next (roundOp .one 11 s)

/-- ROUND1.12: global step 12 (R185). -/
def execRound1_12 (s : State) : Host.Outcome State Fault Refusal := .next (roundOp .one 12 s)

/-- ROUND1.13: global step 13 (R185). -/
def execRound1_13 (s : State) : Host.Outcome State Fault Refusal := .next (roundOp .one 13 s)

/-- ROUND1.14: global step 14 (R185). -/
def execRound1_14 (s : State) : Host.Outcome State Fault Refusal := .next (roundOp .one 14 s)

/-- ROUND1.15: global step 15 (R185). -/
def execRound1_15 (s : State) : Host.Outcome State Fault Refusal := .next (roundOp .one 15 s)

/-- ROUND2.0: global step 16 (R186). -/
def execRound2_0 (s : State) : Host.Outcome State Fault Refusal := .next (roundOp .two 0 s)

/-- ROUND2.1: global step 17 (R186). -/
def execRound2_1 (s : State) : Host.Outcome State Fault Refusal := .next (roundOp .two 1 s)

/-- ROUND2.2: global step 18 (R186). -/
def execRound2_2 (s : State) : Host.Outcome State Fault Refusal := .next (roundOp .two 2 s)

/-- ROUND2.3: global step 19 (R186). -/
def execRound2_3 (s : State) : Host.Outcome State Fault Refusal := .next (roundOp .two 3 s)

/-- ROUND2.4: global step 20 (R186). -/
def execRound2_4 (s : State) : Host.Outcome State Fault Refusal := .next (roundOp .two 4 s)

/-- ROUND2.5: global step 21 (R186). -/
def execRound2_5 (s : State) : Host.Outcome State Fault Refusal := .next (roundOp .two 5 s)

/-- ROUND2.6: global step 22 (R186). -/
def execRound2_6 (s : State) : Host.Outcome State Fault Refusal := .next (roundOp .two 6 s)

/-- ROUND2.7: global step 23 (R186). -/
def execRound2_7 (s : State) : Host.Outcome State Fault Refusal := .next (roundOp .two 7 s)

/-- ROUND2.8: global step 24 (R186). -/
def execRound2_8 (s : State) : Host.Outcome State Fault Refusal := .next (roundOp .two 8 s)

/-- ROUND2.9: global step 25 (R186). -/
def execRound2_9 (s : State) : Host.Outcome State Fault Refusal := .next (roundOp .two 9 s)

/-- ROUND2.10: global step 26 (R186). -/
def execRound2_10 (s : State) : Host.Outcome State Fault Refusal := .next (roundOp .two 10 s)

/-- ROUND2.11: global step 27 (R186). -/
def execRound2_11 (s : State) : Host.Outcome State Fault Refusal := .next (roundOp .two 11 s)

/-- ROUND2.12: global step 28 (R186). -/
def execRound2_12 (s : State) : Host.Outcome State Fault Refusal := .next (roundOp .two 12 s)

/-- ROUND2.13: global step 29 (R186). -/
def execRound2_13 (s : State) : Host.Outcome State Fault Refusal := .next (roundOp .two 13 s)

/-- ROUND2.14: global step 30 (R186). -/
def execRound2_14 (s : State) : Host.Outcome State Fault Refusal := .next (roundOp .two 14 s)

/-- ROUND2.15: global step 31 (R186). -/
def execRound2_15 (s : State) : Host.Outcome State Fault Refusal := .next (roundOp .two 15 s)

/-- ROUND3.0: global step 32 (R187). -/
def execRound3_0 (s : State) : Host.Outcome State Fault Refusal := .next (roundOp .three 0 s)

/-- ROUND3.1: global step 33 (R187). -/
def execRound3_1 (s : State) : Host.Outcome State Fault Refusal := .next (roundOp .three 1 s)

/-- ROUND3.2: global step 34 (R187). -/
def execRound3_2 (s : State) : Host.Outcome State Fault Refusal := .next (roundOp .three 2 s)

/-- ROUND3.3: global step 35 (R187). -/
def execRound3_3 (s : State) : Host.Outcome State Fault Refusal := .next (roundOp .three 3 s)

/-- ROUND3.4: global step 36 (R187). -/
def execRound3_4 (s : State) : Host.Outcome State Fault Refusal := .next (roundOp .three 4 s)

/-- ROUND3.5: global step 37 (R187). -/
def execRound3_5 (s : State) : Host.Outcome State Fault Refusal := .next (roundOp .three 5 s)

/-- ROUND3.6: global step 38 (R187). -/
def execRound3_6 (s : State) : Host.Outcome State Fault Refusal := .next (roundOp .three 6 s)

/-- ROUND3.7: global step 39 (R187). -/
def execRound3_7 (s : State) : Host.Outcome State Fault Refusal := .next (roundOp .three 7 s)

/-- ROUND3.8: global step 40 (R187). -/
def execRound3_8 (s : State) : Host.Outcome State Fault Refusal := .next (roundOp .three 8 s)

/-- ROUND3.9: global step 41 (R187). -/
def execRound3_9 (s : State) : Host.Outcome State Fault Refusal := .next (roundOp .three 9 s)

/-- ROUND3.10: global step 42 (R187). -/
def execRound3_10 (s : State) : Host.Outcome State Fault Refusal := .next (roundOp .three 10 s)

/-- ROUND3.11: global step 43 (R187). -/
def execRound3_11 (s : State) : Host.Outcome State Fault Refusal := .next (roundOp .three 11 s)

/-- ROUND3.12: global step 44 (R187). -/
def execRound3_12 (s : State) : Host.Outcome State Fault Refusal := .next (roundOp .three 12 s)

/-- ROUND3.13: global step 45 (R187). -/
def execRound3_13 (s : State) : Host.Outcome State Fault Refusal := .next (roundOp .three 13 s)

/-- ROUND3.14: global step 46 (R187). -/
def execRound3_14 (s : State) : Host.Outcome State Fault Refusal := .next (roundOp .three 14 s)

/-- ROUND3.15: global step 47 (R187). -/
def execRound3_15 (s : State) : Host.Outcome State Fault Refusal := .next (roundOp .three 15 s)

end Sys2Proof.Machine
end

