-- ==== Sys2Proof/Machine/Events.lean ====
section
/-! DEFINITION. What each kind of step does: a host transaction, an engine step, a poll, a reset, a move
of the host on its message memory (46_host_interface.md R250, R251; 70_reset_and_hazards.md R300). -/

namespace Sys2Proof.Machine

/-- A host transaction: decoded and executed (R79). An error record that is never held is a fault (93). -/
def hostStep (t : HostTxn) (s : State) : Host.Outcome State Fault Refusal :=
  if errorRecordHeld s then exec (decodeHost t) s else .fault .errorRecordNeverHeld

/-- An engine step: exactly when STATE = BUSY, the micro-operation SEQ selects (R250); else the engine
is quiescent and nothing changes (log entry 2). A never-held SEQ faults (R83) at this step in BUSY, where SEQ
selects a meaning, and nowhere else: neither in IDLE or DONE nor at a host transaction, RD SEQ among them
(DEDUCED, log entry 21). -/
def engineStep (s : State) : Host.Outcome State Fault Refusal :=
  if s.status = .busy then
    match decodeSeq s.seq with
    | .ok i => exec i s
    | .error .noMicroOp => .fault .busyWithoutMicroOp
    | .error .unreachableSequencerWord => .fault .unreachableSequencerWord
  else .next s

/-- The read transaction a poll repeats (R85). -/
def pollRead (off : BitVec 6) : HostTxn := { write := false, off := off, data := 0 }

/-- POLL: one read; while it does not match, the engine gets one step and the poll stays due
(R85, R251; log entry 3). -/
def pollStep (off : BitVec 6) (mask value : Word) (s : State) : Host.Outcome State Fault Refusal :=
  if regRead s off &&& mask = value then hostStep (pollRead off) s
  else hostStep (pollRead off) (s.setInbox (.engine :: .poll off mask value :: s.inbox))

/-- The reset input: the reset state of R301; the message memory belongs to the caller and stays
(R300, R302), as do the steps to come and the words already returned (log entry 13). -/
def resetStep (s : State) : State :=
  { State.reset with msg := s.msg, inbox := s.inbox, replies := s.replies }

/-- The host binds a message; it has no such move while BUSY (R66, R253; log entry 7). -/
def bindMessageStep (bytes : List Byte) (s : State) : Host.Outcome State Fault Refusal :=
  if s.status = .busy then .refused .messageChangedWhileBusy
  else .next (s.setMsg (Memory.ofBytes bytes))

/-- The host writes a message byte; below LEN it has no such move while BUSY (R66; log entry 7). -/
def writeMessageStep (off : BitVec 61) (b : Byte) (s : State) : Host.Outcome State Fault Refusal :=
  if s.status = .busy ∧ off.toNat < s.len.toNat then .refused .messageChangedWhileBusy
  else .next (s.setMsg (s.msg.write off.toNat b))

/-- One entry of the inbox. -/
def eventStep (e : Event) (s : State) : Host.Outcome State Fault Refusal :=
  match e with
  | .host t => hostStep t s
  | .engine => engineStep s
  | .poll off mask value => pollStep off mask value s
  | .reset _ => .next (resetStep s)
  | .bindMessage bytes => bindMessageStep bytes s
  | .writeMessage off b => writeMessageStep off b s

/-- The word placed where the machine takes its next instruction: a record at the head of the inbox, or
SEQ with STATE = BUSY and an engine step at the head of the inbox (R78, R80, R250; log entry 11). -/
def placeWord (s : State) : MachineWord → State
  | .host rec => s.setInbox (.host (HostTxn.unpack rec) :: s.inbox)
  | .seq w =>
    { s.setSeq (seqPhase w) (seqStep w) with status := .busy, inbox := .engine :: s.inbox }

end Sys2Proof.Machine
end

