-- ==== Sys2Proof/Machine/Step.lean ====
section
/-! DEFINITION. One step of the whole block: the next entry of the inbox, or an engine step when the inbox
is empty (46_host_interface.md R251; log entry 1). -/

namespace Sys2Proof.Machine

/-- One step (R251). -/
def step (s : State) : Host.Outcome State Fault Refusal :=
  match s.inbox with
  | [] => engineStep s
  | e :: es => eventStep e (s.setInbox es)

/-- `s` with a table word placed so that the very next step runs it (log entry 11). -/
def State.withFetchWord (s : State) (nbits w : Nat) : State :=
  match tableWord nbits w with
  | some mw => placeWord s mw
  | none => s

end Sys2Proof.Machine
end

