-- ==== Sys2Proof/Machine/Digest.lean ====
section
/-! DEFINITION. The pure functions of a whole block and a whole message: compress, digest_words and the
digest bytes (44_round_engine.md R190, 45_accumulator_finalizer.md R216, R217). The micro-operations do
not use them; claims relate the two. -/

namespace Sys2Proof.Machine

/-- Apply one row of the step table R181 to (a, b, c, d). -/
def StepRow.apply (row : StepRow) (X : Vector Word 16) (q : Quad) : Quad :=
  let t := q.roles row.active
  let sum := add32 (add32 (add32 t.a (nonlinear row.round t.b t.c t.d)) (X.get row.word)) row.k
  q.write (rotl32 sum row.rot) row.active

/-- `compress(S, Xb)` (R190). -/
def compress (S : Quad) (X : Vector Word 16) : Quad :=
  S.add (stepTable.foldl (fun q row => row.apply X q) S)

/-- `digest_words(M)`: the state after the last block (R216). -/
def digestWords (M : List Byte) : Quad := (parse (padded M)).foldl compress iv

/-- LE32(w): the bytes of a word, least significant first (R56, R217). -/
def le32 (w : Word) : List Byte :=
  [w.extractLsb' 0 8, w.extractLsb' 8 8, w.extractLsb' 16 8, w.extractLsb' 24 8]

/-- Four words as 16 bytes, in the order A, B, C, D (R217). -/
def digestBytes (q : Quad) : List Byte := le32 q.a ++ le32 q.b ++ le32 q.c ++ le32 q.d

/-- `digest(M)` (R217); for len(M) above MAX_LEN its value rests on the free bit length (log entry 19). -/
def digest (M : List Byte) : List Byte := digestBytes (digestWords M)

end Sys2Proof.Machine
end

