-- ==== Sys2Proof/Machine/HostProgram.lean ====
section
/-! DEFINITION. Host programs: the statements WR, RD, POLL and the pseudo-instructions with their
expansions (30_encoding.md R85, R86), and the host's steps for one digest (70_reset_and_hazards.md R305). -/

namespace Sys2Proof.Machine

/-- A statement of a host program (R85). -/
inductive Stmt where
  /-- `WR <off>, <value>` -/
  | wr (off : BitVec 6) (value : Word)
  /-- `RD <off> -> <name>`; the value returned stands in `replies` -/
  | rd (off : BitVec 6)
  /-- `POLL <off>, <mask>, <value>` -/
  | poll (off : BitVec 6) (mask value : Word)
  deriving DecidableEq, Repr

/-- What a statement puts into the inbox. -/
def Stmt.event : Stmt → Event
  | .wr off value => .host { write := true, off := off, data := value }
  | .rd off => .host { write := false, off := off, data := 0 }
  | .poll off mask value => .poll off mask value

/-- The pseudo-instructions (R86). -/
inductive Pseudo where
  | nop
  | start
  | clearErr
  | setLen (L : BitVec 64)
  | waitDone
  | readDigest
  deriving DecidableEq, Repr

/-- The expansion of a pseudo-instruction (R86). -/
def Pseudo.expand : Pseudo → List Stmt
  | .nop => [.wr offCmd 0x00000000]
  | .start => [.wr offCmd 0x00000001]
  | .clearErr => [.wr offCmd 0x00000002]
  | .setLen L => [.wr offLenLo (L.extractLsb' 0 32), .wr offLenHi (L.extractLsb' 32 32)]
  | .waitDone => [.poll offStatus 0x00000003 0x00000002]
  | .readDigest => [.rd offDigest0, .rd offDigest1, .rd offDigest2, .rd offDigest3]

/-! ## Computing one digest (70_reset_and_hazards.md R305) -/

/-- The STATE field of a STATUS word the host has read (R73). -/
def statusState (v : Word) : BitVec 2 := v.extractLsb' 0 2

/-- The ERR bit of a STATUS word the host has read (R73). -/
def statusErr (v : Word) : Bool := v.getLsbD 2

/-- The condition of steps 1 and 2: STATE ≠ BUSY (R305, R310). -/
def mayStart (before : Word) : Bool := statusState before != 1

/-- The check of step 3: STATE = BUSY, and ERR did not newly become 1 (R305). -/
def startConfirmed (before after : Word) : Bool :=
  statusState after == 1 && !(statusErr after && !statusErr before)

/-- The host's steps R305 for the message M, as a function of the STATUS words read so far, oldest first:
read STATUS, which is the condition of steps 1 and 2 and the ERR value that step 3 compares with; bind M,
SETLEN, START and read STATUS again (steps 1 to 3); then, only when START is confirmed, WAITDONE and
READDIGEST (steps 4 and 5). An empty list says that the host goes no further: BUSY at the first read, a
length LEN cannot hold (R35), or a START that was refused (log entry 20, DEDUCED and DESIGN CHOICE). -/
def digestProgram (M : List Byte) : List Word → List Event
  | [] => [(Stmt.rd offStatus).event]
  | [before] =>
    if mayStart before && decide (M.length < 2 ^ 64) then
      .bindMessage M :: (Pseudo.expand (.setLen (BitVec.ofNat 64 M.length)) ++ Pseudo.expand .start ++
        [Stmt.rd offStatus]).map Stmt.event
    else []
  | [before, after] =>
    if startConfirmed before after then
      (Pseudo.expand .waitDone ++ Pseudo.expand .readDigest).map Stmt.event
    else []
  | _ => []

end Sys2Proof.Machine
end

