-- ==== Sys2Proof/Machine/Platform.lean ====
section
/-! DEFINITION. The platform around the block: where the window sits (20_memory.md R52), several instances
(60_exceptions.md R285), and the informative clock cycles of a run (70_reset_and_hazards.md R320). -/

namespace Sys2Proof.Machine

/-- The platform address of a window offset: REG_BASE + off (R52). -/
def busAddress (off : BitVec 6) : Nat := Config.regBase + off.toNat

/-- The platform location of message offset i (R50). -/
def messageLocation (i : Nat) : Nat := Config.msgBinding i

/-- One step of instance k of a list of instances; the others keep their state (R21, R285). A stop of
the instance stops the product. -/
def instanceStep : List State → Nat → Host.Outcome (List State) Fault Refusal
  | [], _ => .next []
  | s :: ss, 0 =>
    match step s with
    | .next t => .next (t :: ss)
    | .fault r => .fault r
    | .refused r => .refused r
  | s :: ss, k + 1 =>
    match instanceStep ss k with
    | .next ts => .next (s :: ts)
    | .fault r => .fault r
    | .refused r => .refused r

/-- The clock cycles of a run of N blocks: N · (LOAD + 48 ROUND + ACCUM) + FINAL; informative (R320). -/
def runCycles (N : Nat) : Nat :=
  N * (Config.cyclesPerStep .load + 48 * Config.cyclesPerStep .round + Config.cyclesPerStep .accum) +
    Config.cyclesPerStep .final

end Sys2Proof.Machine
end

