-- ==== Sys2Proof/WellFormed.lean ====
section
/-! DEFINITION. Which terms of `Instr` are instructions: the two rows whose operand range the spec
restricts are checked (30_encoding.md R72, R82; 46_host_interface.md R232, R246). -/

namespace Sys2Proof

/-- A command word no command has: w[31:4] ≠ 0 or w[3:0] in 3..15 (R72, R82). -/
def illegalCommand (w : Word) : Bool :=
  w.extractLsb' 4 28 != 0 || decide (3 ≤ (w.extractLsb' 0 4).toNat)

/-- An offset whose writes are `WR.RO`: any offset other than CMD, LEN_LO and LEN_HI (R79, R232). -/
def readOnlyOrReserved (off : BitVec 6) : Bool :=
  off != 0x00 && off != 0x10 && off != 0x14

/-- Well-formed instructions. -/
def Instr.wellFormed : Instr → Bool
  | .cmdIllegal w => illegalCommand w
  | .wrRo off _ => readOnlyOrReserved off
  | .nop | .start | .clearErr | .rd _ _ | .wrLenLo _ | .wrLenHi _ | .load | .accum | .final => true
  | .round1_0 | .round1_1 | .round1_2 | .round1_3 | .round1_4 | .round1_5 | .round1_6 | .round1_7 | .round1_8 | .round1_9 | .round1_10 | .round1_11 | .round1_12 | .round1_13 | .round1_14 | .round1_15 => true
  | .round2_0 | .round2_1 | .round2_2 | .round2_3 | .round2_4 | .round2_5 | .round2_6 | .round2_7 | .round2_8 | .round2_9 | .round2_10 | .round2_11 | .round2_12 | .round2_13 | .round2_14 | .round2_15 => true
  | .round3_0 | .round3_1 | .round3_2 | .round3_3 | .round3_4 | .round3_5 | .round3_6 | .round3_7 | .round3_8 | .round3_9 | .round3_10 | .round3_11 | .round3_12 | .round3_13 | .round3_14 | .round3_15 => true

end Sys2Proof
end

