-- ==== Sys2Proof/Safety.lean ====
section
/-! DEFINITION. The terms claims are made in: runs, the invariant of reachable states, a message held in
memory, and the relations that compare two states. -/

namespace Sys2Proof.Machine

/-- `k` steps, stopping at the first fault or refusal. -/
def run : Nat → State → Host.Outcome State Fault Refusal
  | 0, s => .next s
  | k + 1, s =>
    match step s with
    | .next t => run k t
    | .fault r => .fault r
    | .refused r => .refused r

/-- The invariant of reachable states: R31 (i) to (iv), with the bound on LEN that START checks (R241),
the error record of R38, and the canonical form of the message memory. R31 (v) names the length of the
finished computation, which LEN need not hold any more: it is `ComputationOf` (log entry 9). -/
structure Inv (s : State) : Prop where
  /-- R31 (i). -/
  busyIff : s.status = .busy ↔ 1 ≤ s.phase.toNat ∧ s.phase.toNat ≤ 4
  /-- R31 (ii). -/
  phaseHeld : s.phase.toNat ≤ 4
  /-- R31 (iii). -/
  stepHeld : s.stepNo.toNat ≤ 47
  /-- R31 (iii). -/
  stepZero : s.phase ≠ 2 → s.stepNo = 0
  /-- R31 (iv). -/
  blockBelow : s.status = .busy → s.phase ≠ 4 → s.block.toNat < blockCount s.len.toNat
  /-- R31 (iv), the exception. -/
  blockLast : s.status = .busy → s.phase = 4 → s.block.toNat = blockCount s.len.toNat
  /-- LEN ≤ MAX_LEN while BUSY (R35, R241). -/
  lenInRange : s.status = .busy → s.len.toNat ≤ 2 ^ 61 - 1
  /-- ERR_CAUSE is 0 exactly when ERR = 0 (R38, R272). -/
  record : s.err = true ↔ s.errCause ≠ .noCause
  /-- The message memory is in its canonical form. -/
  memory : s.msg.wf = true

/-- R31 (v) and R34: L is the length of the computation in progress or last finished, the LEN its START
found. LEN is L "for the whole of a computation" (R35), and in DONE BLOCK is N(L), "the number of blocks
processed" (R34), whatever the host has written to LEN since (R233; log entry 9). -/
structure ComputationOf (L : BitVec 64) (s : State) : Prop where
  /-- LEN is constant while BUSY (R35). -/
  lenKept : s.status = .busy → s.len = L
  /-- R31 (v), R34. -/
  blockDone : s.status = .done → s.block.toNat = blockCount L.toNat
  /-- START has checked L (R241), so BLOCK has not overflowed (R34). -/
  inRange : s.status ≠ .idle → L.toNat ≤ 2 ^ 61 - 1

/-- The length of the computation after a step from s to t: the LEN that a START accepted in this step
found, else the one before. -/
def lengthAfter (L : BitVec 64) (s t : State) : BitVec 64 :=
  if s.status ≠ .busy ∧ t.status = .busy then s.len else L

/-- The message memory holds the message M, and LEN is its length (R50, R66). -/
structure MessageHolds (s : State) (M : List Byte) : Prop where
  length : s.len.toNat = M.length
  bytes : ∀ i, i < M.length → s.msg.read i = M[i]?

/-- The state after a ROUND that leaves the working copy at q: the sequencing of R184, all else as
before. -/
def afterRound (s : State) (q : Quad) : State :=
  { s with
    work := q
    phase := if s.stepNo.toNat < 47 then s.phase else 3
    stepNo := if s.stepNo.toNat < 47 then s.stepNo + 1 else 0 }

/-- The state after `raise HostError(c)` as R272 reads: ERR set, the first cause kept, all else as
before. -/
def withFirstCause (s : State) (c : ErrCause) : State :=
  { s with err := true, errCause := if s.err then s.errCause else c }

/-- The sequencer words R80 marks "never held" (R31 (ii), (iii)). -/
def NeverHeld (phase : BitVec 3) (st : BitVec 6) : Prop :=
  (phase = 2 ∧ 48 ≤ st.toNat) ∨ 5 ≤ phase.toNat ∨ (phase ≠ 2 ∧ st ≠ 0)

/-- Two outcomes that agree: next states related by `R`, or the same stop. -/
def OutcomeRel (R : State → State → Prop) :
    Host.Outcome State Fault Refusal → Host.Outcome State Fault Refusal → Prop
  | .next s, .next t => R s t
  | .fault r, .fault r' => r = r'
  | .refused r, .refused r' => r = r'
  | _, _ => False

/-- Two states no observation tells apart: they may differ in A to D while IDLE, in a to d unless a
ROUND or ACCUM is due, and in X unless a ROUND is due (R24, R25, R27). -/
structure Indistinguishable (s t : State) : Prop where
  acc : s.status ≠ .idle → s.acc = t.acc
  work : s.phase = 2 ∨ s.phase = 3 → s.work = t.work
  X : s.phase = 2 → s.X = t.X
  status : s.status = t.status
  phase : s.phase = t.phase
  stepNo : s.stepNo = t.stepNo
  block : s.block = t.block
  len : s.len = t.len
  err : s.err = t.err
  errCause : s.errCause = t.errCause
  msg : s.msg = t.msg
  inbox : s.inbox = t.inbox
  replies : s.replies = t.replies

/-- Two states that agree on everything a computation uses: they may differ in ERR, ERR_CAUSE, the
inbox and the words returned (R37). -/
structure SameComputation (s t : State) : Prop where
  acc : s.acc = t.acc
  work : s.work = t.work
  X : s.X = t.X
  status : s.status = t.status
  phase : s.phase = t.phase
  stepNo : s.stepNo = t.stepNo
  block : s.block = t.block
  len : s.len = t.len
  msg : s.msg = t.msg

/-- The transaction START: `WR CMD, 0x00000001` (R240). -/
def startTxn : HostTxn := { write := true, off := 0x00, data := 0x00000001 }

/-- An event of a run without resets and without host moves on the message: a host transaction or an
engine step (R218, R251). -/
def Event.plain : Event → Bool
  | .host _ => true
  | .engine => true
  | .poll _ _ _ | .reset _ | .bindMessage _ | .writeMessage _ _ => false

end Sys2Proof.Machine
end

