-- ==== Sys2Proof/Certificates/Slice0/Obligations.lean ====
section
/-! DEFINITION. The statements for the provers. -/

open Sys2Proof Sys2Proof.Machine

/-! ## Encoding (30_encoding.md) -/

/-- Decode after encode, all 59 rows, every operand value (R72, R78 to R80). -/
def Obligations.DecodeOfEncode : Prop :=
  ∀ i : Instr, i.wellFormed = true → decode (encode i) = .ok i

/-- Encode after decode: decoding gives well-formed instructions only, and no bit of an accepted word is
dropped. For a read this is the model's choice: RD carries the DATA that R78 says is ignored (log entry 14,
DESIGN CHOICE). -/
def Obligations.EncodeOfDecode : Prop :=
  ∀ (w : MachineWord) (i : Instr), decode w = .ok i → encode i = w ∧ i.wellFormed = true

/-- R79 with the command words of R72. -/
def Obligations.HostDecodingIsTotal : Prop :=
  ∀ t : HostTxn, decode (.host t.pack) = .ok (
    if t.write = false then .rd t.off t.data
    else if t.off = 0x00 then
      (if t.data = 0x00000000 then .nop
       else if t.data = 0x00000001 then .start
       else if t.data = 0x00000002 then .clearErr
       else .cmdIllegal t.data)
    else if t.off = 0x10 then .wrLenLo t.data
    else if t.off = 0x14 then .wrLenHi t.data
    else .wrRo t.off t.data)

/-- The table of R80, all 512 sequencer words. -/
def Obligations.SequencerDecoding : Prop :=
  ∀ (p : BitVec 3) (st : BitVec 6),
    (p = 0 → st = 0 → decode (.seq (p ++ st : BitVec (3 + 6))) = .error .noMicroOp) ∧
    (p = 1 → st = 0 → decode (.seq (p ++ st : BitVec (3 + 6))) = .ok .load) ∧
    (p = 3 → st = 0 → decode (.seq (p ++ st : BitVec (3 + 6))) = .ok .accum) ∧
    (p = 4 → st = 0 → decode (.seq (p ++ st : BitVec (3 + 6))) = .ok .final) ∧
    (p = 2 → st.toNat < 48 → ∃ i r j, decode (.seq (p ++ st : BitVec (3 + 6))) = .ok i ∧
      i.roundOf = some (r, j) ∧ j.val = st.toNat % 16 ∧
      r = (if st.toNat < 16 then Round.one else if st.toNat < 32 then Round.two else Round.three)) ∧
    (p = 2 → 48 ≤ st.toNat →
      decode (.seq (p ++ st : BitVec (3 + 6))) = .error .unreachableSequencerWord) ∧
    (5 ≤ p.toNat → decode (.seq (p ++ st : BitVec (3 + 6))) = .error .unreachableSequencerWord) ∧
    (p ≠ 2 → st ≠ 0 → decode (.seq (p ++ st : BitVec (3 + 6))) = .error .unreachableSequencerWord)

/-- Words of spec/opcode_table.json and 95_test_vectors.md §2.10. -/
def Obligations.WrittenOutWordsDecode : Prop :=
  decode (.host 0x4000000000) = .ok .nop ∧
  decode (.host 0x4000000001) = .ok .start ∧
  decode (.host 0x4000000002) = .ok .clearErr ∧
  decode (.host 0x4000000011) = .ok (.cmdIllegal 0x00000011) ∧
  decode (.host 0x0400000000) = .ok (.rd 0x04 0x00000000) ∧
  decode (.host 0x5000000005) = .ok (.wrLenLo 0x00000005) ∧
  decode (.host 0x5420000000) = .ok (.wrLenHi 0x20000000) ∧
  decode (.host 0x6012345678) = .ok (.wrRo 0x20 0x12345678) ∧
  decode (.seq 0x040) = .ok .load ∧
  decode (.seq 0x08b) = .ok .round1_11 ∧
  decode (.seq 0x096) = .ok .round2_6 ∧
  decode (.seq 0x0a5) = .ok .round3_5 ∧
  decode (.seq 0x0c0) = .ok .accum ∧
  decode (.seq 0x100) = .ok .final

/-! ## A step runs the decoded instruction -/

/-- A host transaction at the head of the inbox (the model's own schedule, log entry 1) is decoded and
executed. That a record ERR = 0 with a nonzero cause, never held, is a fault is from 93; that the check
stands at host transactions is the model's choice (log entry 16, DEDUCED). -/
def Obligations.StepRunsHostTransaction : Prop :=
  ∀ (s : State) (t : HostTxn) (es : List Event) (i : Instr),
    s.inbox = .host t :: es → decode (.host t.pack) = .ok i →
    ((s.err = true ∨ s.errCause = .noCause) → step s = exec i { s with inbox := es }) ∧
    (s.err = false → s.errCause ≠ .noCause → step s = .fault .errorRecordNeverHeld)

/-- The engine has a step exactly when STATE = BUSY, and it performs the micro-operation SEQ selects (R250). -/
def Obligations.StepRunsSelectedMicroOperation : Prop :=
  ∀ (s : State) (es : List Event) (i : Instr),
    (s.inbox = .engine :: es ∨ (s.inbox = [] ∧ es = [])) →
    (s.status = .busy → decode (.seq (s.phase ++ s.stepNo : BitVec (3 + 6))) = .ok i →
      step s = exec i { s with inbox := es }) ∧
    (s.status ≠ .busy → step s = .next { s with inbox := es })

/-- The convention of `withFetchWord` (log entry 11): a placed word is the next instruction run. -/
def Obligations.PlacedWordIsRun : Prop :=
  ∀ (i : Instr) (s : State), i.wellFormed = true →
    (i.agent = .host → (s.err = true ∨ s.errCause = .noCause) →
      step (placeWord s (encode i)) = exec i s) ∧
    (i.agent = .engine → ∃ w : BitVec 9, encode i = .seq w ∧
      step (placeWord s (encode i)) =
        exec i { s with phase := w.extractLsb' 6 3, stepNo := w.extractLsb' 0 6, status := .busy })

/-! ## Host transactions (46_host_interface.md) -/

/-- R244. -/
def Obligations.NopChangesNothing : Prop :=
  ∀ s : State, exec .nop s = .next s

/-- R240, whole next state. -/
def Obligations.StartBeginsRun : Prop :=
  ∀ s : State, s.status ≠ .busy → s.len.toNat ≤ 2 ^ 61 - 1 →
    exec .start s = .next { s with
      acc := { a := 0x67452301, b := 0xefcdab89, c := 0x98badcfe, d := 0x10325476 }
      block := 0, phase := 1, stepNo := 0, status := .busy }

/-- R241 in its order, recording by R272. -/
def Obligations.StartRefusals : Prop :=
  ∀ s : State,
    (s.status = .busy → exec .start s = .next (withFirstCause s .startBusy)) ∧
    (s.status ≠ .busy → 2 ^ 61 - 1 < s.len.toNat →
      exec .start s = .next (withFirstCause s .lenRange))

/-- R245. -/
def Obligations.ClearErrClearsRecord : Prop :=
  ∀ s : State, exec .clearErr s = .next { s with err := false, errCause := .noCause }

/-- R246, recording by R272. -/
def Obligations.IllegalCommandRecorded : Prop :=
  ∀ (w : Word) (s : State), (w.extractLsb' 4 28 ≠ 0 ∨ 3 ≤ (w.extractLsb' 0 4).toNat) →
    exec (.cmdIllegal w) s = .next (withFirstCause s .illegalCmd)

/-- The first place of ILLEGAL_CMD in the priority of R273. -/
def Obligations.IllegalCommandComesFirst : Prop :=
  ∀ (s : State) (w : Word) (es : List Event),
    s.inbox = .host { write := true, off := 0x00, data := w } :: es →
    w ≠ 0 → w ≠ 1 → w ≠ 2 → (s.err = true ∨ s.errCause = .noCause) →
    step s = .next (withFirstCause { s with inbox := es } .illegalCmd)

/-- R233, recording by R272. -/
def Obligations.LengthWrites : Prop :=
  ∀ (v : Word) (s : State),
    (s.status = .busy → exec (.wrLenLo v) s = .next (withFirstCause s .writeBusy) ∧
      exec (.wrLenHi v) s = .next (withFirstCause s .writeBusy)) ∧
    (s.status ≠ .busy →
      (∃ L : BitVec 64, exec (.wrLenLo v) s = .next { s with len := L } ∧
        L.extractLsb' 0 32 = v ∧ L.extractLsb' 32 32 = s.len.extractLsb' 32 32) ∧
      (∃ L : BitVec 64, exec (.wrLenHi v) s = .next { s with len := L } ∧
        L.extractLsb' 32 32 = v ∧ L.extractLsb' 0 32 = s.len.extractLsb' 0 32))

/-- R232, recording by R272. -/
def Obligations.ReadOnlyWriteRecorded : Prop :=
  ∀ (off : BitVec 6) (v : Word) (s : State), off ≠ 0x00 → off ≠ 0x10 → off ≠ 0x14 →
    exec (.wrRo off v) s = .next (withFirstCause s .badAccess)

/-- R230, with the layouts of R73 (STATUS) and R75 (SEQ). -/
def Obligations.ReadReturnsRegister : Prop :=
  ∀ (off : BitVec 6) (data : Word) (s : State), ∃ v : Word,
    exec (.rd off data) s = .next { s with replies := v :: s.replies } ∧
    (off = 0x04 →
      v.extractLsb' 0 2 = (match s.status with | .idle => 0#2 | .busy => 1#2 | .done => 2#2) ∧
      v.getLsbD 2 = s.err ∧ v.getLsbD 3 = false ∧
      v.extractLsb' 4 4 = (match s.errCause with
        | .noCause => 0#4 | .illegalCmd => 1#4 | .startBusy => 2#4
        | .lenRange => 3#4 | .writeBusy => 4#4 | .badAccess => 5#4) ∧
      v.extractLsb' 8 24 = 0) ∧
    (off = 0x08 → v.extractLsb' 0 6 = s.stepNo ∧ v.extractLsb' 6 3 = s.phase ∧
      v.extractLsb' 9 23 = 0) ∧
    (off = 0x10 → v = s.len.extractLsb' 0 32) ∧ (off = 0x14 → v = s.len.extractLsb' 32 32) ∧
    (off = 0x18 → v = s.block.extractLsb' 0 32) ∧ (off = 0x1C → v = s.block.extractLsb' 32 32) ∧
    (off = 0x20 → v = if s.status = .done then s.acc.a else 0) ∧
    (off = 0x24 → v = if s.status = .done then s.acc.b else 0) ∧
    (off = 0x28 → v = if s.status = .done then s.acc.c else 0) ∧
    (off = 0x2C → v = if s.status = .done then s.acc.d else 0) ∧
    (off ∉ [0x04, 0x08, 0x10, 0x14, 0x18, 0x1C, 0x20, 0x24, 0x28, 0x2C] → v = 0)

/-- The corner case of R230; DATA is ignored for a read (R78). -/
def Obligations.ReadsRepeat : Prop :=
  ∀ (off : BitVec 6) (data data' : Word) (s t u : State),
    exec (.rd off data) s = .next t → exec (.rd off data') t = .next u →
    ∃ v : Word, u.replies = v :: v :: s.replies

/-- The expansion of SETLEN (R86), executed; then the host's steps of R305 up to the check of step 3: the
read of STATUS, the steps not taken in BUSY, the START confirmed, the START refused (the first read and the
ends of the program are the model's, log entry 20). -/
def Obligations.SetLenThenCheckedStart : Prop :=
  (∀ (s : State) (L : BitVec 64) (es : List Event), s.status ≠ .busy →
    (s.err = true ∨ s.errCause = .noCause) →
    s.inbox = (Pseudo.expand (.setLen L)).map Stmt.event ++ es →
    run 2 s = .next { s with len := L, inbox := es }) ∧
  (∀ (s : State) (M : List Byte), (s.err = true ∨ s.errCause = .noCause) →
    s.inbox = digestProgram M [] →
    step s = .next { s with inbox := [], replies := statusWord s :: s.replies }) ∧
  (∀ (s : State) (M : List Byte), s.status = .busy → digestProgram M [statusWord s] = []) ∧
  (∀ (s : State) (M : List Byte), s.status ≠ .busy → (s.err = true ∨ s.errCause = .noCause) →
    s.inbox = digestProgram M [statusWord s] →
    (M.length ≤ 2 ^ 61 - 1 → ∃ t, run 5 s = .next t ∧ t.status = .busy ∧ t.phase = 1 ∧
      MessageHolds t M ∧ t.err = s.err ∧ t.errCause = s.errCause ∧ t.inbox = [] ∧
      t.replies = statusWord t :: s.replies ∧
      digestProgram M [statusWord s, statusWord t] =
        [.poll 0x04 0x00000003 0x00000002,
         .host { write := false, off := 0x20, data := 0 }, .host { write := false, off := 0x24, data := 0 },
         .host { write := false, off := 0x28, data := 0 }, .host { write := false, off := 0x2C, data := 0 }]) ∧
    (2 ^ 61 - 1 < M.length → M.length < 2 ^ 64 → ∃ t, run 5 s = .next t ∧ t.status = s.status ∧
      t.acc = s.acc ∧ t.err = true ∧ t.inbox = [] ∧ t.replies = statusWord t :: s.replies ∧
      digestProgram M [statusWord s, statusWord t] = []))

/-! ## Micro-operations (41, 44, 45) -/

/-- R125, with the words of R124 as those of the parsed padded buffer. -/
def Obligations.LoadParsesBlock : Prop :=
  ∀ (s : State) (M : List Byte), MessageHolds s M → M.length ≤ 2 ^ 61 - 1 →
    s.block.toNat < blockCount M.length →
    exec .load s = .next { s with
      X := parseBlock (padded M) s.block.toNat, work := s.acc, phase := 2, stepNo := 0 }

/-- R185 unrolled, with the sequencing of R184. -/
def Obligations.RoundOneSteps : Prop :=
  ∀ (s : State) (q : Quad), s.work = q →
    exec .round1_0 s = .next (afterRound s { q with a := T1 q.a q.b q.c q.d (s.X.get 0) 3 }) ∧
    exec .round1_1 s = .next (afterRound s { q with d := T1 q.d q.a q.b q.c (s.X.get 1) 7 }) ∧
    exec .round1_2 s = .next (afterRound s { q with c := T1 q.c q.d q.a q.b (s.X.get 2) 11 }) ∧
    exec .round1_3 s = .next (afterRound s { q with b := T1 q.b q.c q.d q.a (s.X.get 3) 19 }) ∧
    exec .round1_4 s = .next (afterRound s { q with a := T1 q.a q.b q.c q.d (s.X.get 4) 3 }) ∧
    exec .round1_5 s = .next (afterRound s { q with d := T1 q.d q.a q.b q.c (s.X.get 5) 7 }) ∧
    exec .round1_6 s = .next (afterRound s { q with c := T1 q.c q.d q.a q.b (s.X.get 6) 11 }) ∧
    exec .round1_7 s = .next (afterRound s { q with b := T1 q.b q.c q.d q.a (s.X.get 7) 19 }) ∧
    exec .round1_8 s = .next (afterRound s { q with a := T1 q.a q.b q.c q.d (s.X.get 8) 3 }) ∧
    exec .round1_9 s = .next (afterRound s { q with d := T1 q.d q.a q.b q.c (s.X.get 9) 7 }) ∧
    exec .round1_10 s = .next (afterRound s { q with c := T1 q.c q.d q.a q.b (s.X.get 10) 11 }) ∧
    exec .round1_11 s = .next (afterRound s { q with b := T1 q.b q.c q.d q.a (s.X.get 11) 19 }) ∧
    exec .round1_12 s = .next (afterRound s { q with a := T1 q.a q.b q.c q.d (s.X.get 12) 3 }) ∧
    exec .round1_13 s = .next (afterRound s { q with d := T1 q.d q.a q.b q.c (s.X.get 13) 7 }) ∧
    exec .round1_14 s = .next (afterRound s { q with c := T1 q.c q.d q.a q.b (s.X.get 14) 11 }) ∧
    exec .round1_15 s = .next (afterRound s { q with b := T1 q.b q.c q.d q.a (s.X.get 15) 19 })

/-- R186 unrolled, with the sequencing of R184. -/
def Obligations.RoundTwoSteps : Prop :=
  ∀ (s : State) (q : Quad), s.work = q →
    exec .round2_0 s = .next (afterRound s { q with a := T2 q.a q.b q.c q.d (s.X.get 0) 3 }) ∧
    exec .round2_1 s = .next (afterRound s { q with d := T2 q.d q.a q.b q.c (s.X.get 4) 5 }) ∧
    exec .round2_2 s = .next (afterRound s { q with c := T2 q.c q.d q.a q.b (s.X.get 8) 9 }) ∧
    exec .round2_3 s = .next (afterRound s { q with b := T2 q.b q.c q.d q.a (s.X.get 12) 13 }) ∧
    exec .round2_4 s = .next (afterRound s { q with a := T2 q.a q.b q.c q.d (s.X.get 1) 3 }) ∧
    exec .round2_5 s = .next (afterRound s { q with d := T2 q.d q.a q.b q.c (s.X.get 5) 5 }) ∧
    exec .round2_6 s = .next (afterRound s { q with c := T2 q.c q.d q.a q.b (s.X.get 9) 9 }) ∧
    exec .round2_7 s = .next (afterRound s { q with b := T2 q.b q.c q.d q.a (s.X.get 13) 13 }) ∧
    exec .round2_8 s = .next (afterRound s { q with a := T2 q.a q.b q.c q.d (s.X.get 2) 3 }) ∧
    exec .round2_9 s = .next (afterRound s { q with d := T2 q.d q.a q.b q.c (s.X.get 6) 5 }) ∧
    exec .round2_10 s = .next (afterRound s { q with c := T2 q.c q.d q.a q.b (s.X.get 10) 9 }) ∧
    exec .round2_11 s = .next (afterRound s { q with b := T2 q.b q.c q.d q.a (s.X.get 14) 13 }) ∧
    exec .round2_12 s = .next (afterRound s { q with a := T2 q.a q.b q.c q.d (s.X.get 3) 3 }) ∧
    exec .round2_13 s = .next (afterRound s { q with d := T2 q.d q.a q.b q.c (s.X.get 7) 5 }) ∧
    exec .round2_14 s = .next (afterRound s { q with c := T2 q.c q.d q.a q.b (s.X.get 11) 9 }) ∧
    exec .round2_15 s = .next (afterRound s { q with b := T2 q.b q.c q.d q.a (s.X.get 15) 13 })

/-- R187 unrolled, with the sequencing of R184. -/
def Obligations.RoundThreeSteps : Prop :=
  ∀ (s : State) (q : Quad), s.work = q →
    exec .round3_0 s = .next (afterRound s { q with a := T3 q.a q.b q.c q.d (s.X.get 0) 3 }) ∧
    exec .round3_1 s = .next (afterRound s { q with d := T3 q.d q.a q.b q.c (s.X.get 8) 9 }) ∧
    exec .round3_2 s = .next (afterRound s { q with c := T3 q.c q.d q.a q.b (s.X.get 4) 11 }) ∧
    exec .round3_3 s = .next (afterRound s { q with b := T3 q.b q.c q.d q.a (s.X.get 12) 15 }) ∧
    exec .round3_4 s = .next (afterRound s { q with a := T3 q.a q.b q.c q.d (s.X.get 2) 3 }) ∧
    exec .round3_5 s = .next (afterRound s { q with d := T3 q.d q.a q.b q.c (s.X.get 10) 9 }) ∧
    exec .round3_6 s = .next (afterRound s { q with c := T3 q.c q.d q.a q.b (s.X.get 6) 11 }) ∧
    exec .round3_7 s = .next (afterRound s { q with b := T3 q.b q.c q.d q.a (s.X.get 14) 15 }) ∧
    exec .round3_8 s = .next (afterRound s { q with a := T3 q.a q.b q.c q.d (s.X.get 1) 3 }) ∧
    exec .round3_9 s = .next (afterRound s { q with d := T3 q.d q.a q.b q.c (s.X.get 9) 9 }) ∧
    exec .round3_10 s = .next (afterRound s { q with c := T3 q.c q.d q.a q.b (s.X.get 5) 11 }) ∧
    exec .round3_11 s = .next (afterRound s { q with b := T3 q.b q.c q.d q.a (s.X.get 13) 15 }) ∧
    exec .round3_12 s = .next (afterRound s { q with a := T3 q.a q.b q.c q.d (s.X.get 3) 3 }) ∧
    exec .round3_13 s = .next (afterRound s { q with d := T3 q.d q.a q.b q.c (s.X.get 11) 9 }) ∧
    exec .round3_14 s = .next (afterRound s { q with c := T3 q.c q.d q.a q.b (s.X.get 7) 11 }) ∧
    exec .round3_15 s = .next (afterRound s { q with b := T3 q.b q.c q.d q.a (s.X.get 15) 15 })

/-- R210; N(LEN) in the closed form of R107. -/
def Obligations.AccumAddsWorkingCopy : Prop :=
  ∀ s : State, exec .accum s = .next { s with
    acc := { a := s.acc.a + s.work.a, b := s.acc.b + s.work.b, c := s.acc.c + s.work.c,
             d := s.acc.d + s.work.d }
    block := s.block + 1
    phase := if s.block.toNat + 1 < (s.len.toNat + 8) / 64 + 1 then 1 else 4
    stepNo := 0 }

/-- R215. -/
def Obligations.FinalEndsRun : Prop :=
  ∀ s : State, exec .final s = .next { s with status := .done, phase := 0, stepNo := 0 }

/-! ## Whole-machine rules -/

/-- The writers of each register, over all 59 instructions. -/
def Obligations.OnlyTheseWriteEachField : Prop :=
  ∀ (i : Instr) (s t : State), exec i s = .next t →
    (t.acc ≠ s.acc → i = .start ∨ i = .accum) ∧
    (t.work ≠ s.work → i = .load ∨ i.roundOf ≠ none) ∧
    (t.X ≠ s.X → i = .load) ∧
    (t.status ≠ s.status → i = .start ∨ i = .final) ∧
    (t.block ≠ s.block → i = .start ∨ i = .accum) ∧
    (t.len ≠ s.len → (∃ v, i = .wrLenLo v) ∨ (∃ v, i = .wrLenHi v)) ∧
    (t.phase ≠ s.phase ∨ t.stepNo ≠ s.stepNo → i = .start ∨ i.agent = .engine) ∧
    (t.err ≠ s.err ∨ t.errCause ≠ s.errCause → i.agent = .host) ∧
    (t.replies ≠ s.replies → ∃ off data, i = .rd off data) ∧
    t.inbox = s.inbox

/-- R50: the engine never writes the message memory, and no host transaction does. -/
def Obligations.NoInstructionWritesMessage : Prop :=
  ∀ (i : Instr) (s t : State) (a : Nat), exec i s = .next t → t.msg.read a = s.msg.read a

/-- R51 as noninterference. -/
def Obligations.MessageReadsStayInBlock : Prop :=
  (∀ (s : State) (m : Memory),
    (∀ i, i < s.len.toNat → i / 64 = s.block.toNat → m.read i = s.msg.read i) →
    OutcomeRel (fun u v => v = { u with msg := m }) (exec .load s) (exec .load { s with msg := m })) ∧
  (∀ (i : Instr) (s : State) (m : Memory), i ≠ .load →
    OutcomeRel (fun u v => v = { u with msg := m }) (exec i s) (exec i { s with msg := m }))

/-- R272: the first cause is kept until CLEAR_ERR (or reset). -/
def Obligations.FirstCauseIsKept : Prop :=
  ∀ (i : Instr) (s t : State), i ≠ .clearErr → s.err = true → exec i s = .next t →
    t.err = true ∧ t.errCause = s.errCause

/-- R37: ERR never affects the engine's computation. -/
def Obligations.ErrorNeverAffectsComputation : Prop :=
  ∀ (i : Instr) (s t : State), SameComputation s t →
    OutcomeRel SameComputation (exec i s) (exec i t)

/-- The derived clause of R251. -/
def Obligations.HostLeavesRunningComputation : Prop :=
  ∀ (i : Instr) (s t : State), i.agent = .host → s.status = .busy → exec i s = .next t →
    SameComputation s t

/-- R254 over the instructions (its reset line is ResetStepTakesResetState). -/
def Obligations.SequencerTransitions : Prop :=
  ∀ (i : Instr) (s t : State), exec i s = .next t →
    (i.agent = .host → (t.phase = s.phase ∧ t.stepNo = s.stepNo) ∨
      (i = .start ∧ t.phase = 1 ∧ t.stepNo = 0)) ∧
    (i = .load → t.phase = 2 ∧ t.stepNo = 0) ∧
    (i.roundOf ≠ none →
      (s.stepNo.toNat < 47 → t.phase = s.phase ∧ t.stepNo.toNat = s.stepNo.toNat + 1) ∧
      (47 ≤ s.stepNo.toNat → t.phase = 3 ∧ t.stepNo = 0)) ∧
    (i = .accum → t.stepNo = 0 ∧
      (s.block.toNat + 1 < blockCount s.len.toNat → t.phase = 1) ∧
      (blockCount s.len.toNat ≤ s.block.toNat + 1 → t.phase = 4)) ∧
    (i = .final → t.phase = 0 ∧ t.stepNo = 0)

/-- R188: no data value changes which micro-operation comes next. -/
def Obligations.NoBranchOnData : Prop :=
  ∀ (s t u v : State), s.status = t.status → s.phase = t.phase → s.stepNo = t.stepNo →
    s.block = t.block → s.len = t.len → engineStep s = .next u → engineStep t = .next v →
    u.status = v.status ∧ u.phase = v.phase ∧ u.stepNo = v.stepNo ∧ u.block = v.block ∧
      u.len = v.len

/-- R83, with the never-held words of R80. That the fault is raised at an engine step in BUSY is the model's
placing (log entry 21, DEDUCED). -/
def Obligations.NeverHeldWordFaults : Prop :=
  (∀ s t : State, ¬ NeverHeld s.phase s.stepNo → step s = .next t → ¬ NeverHeld t.phase t.stepNo) ∧
  (∀ s : State, s.status = .busy → NeverHeld s.phase s.stepNo →
    engineStep s = .fault .unreachableSequencerWord)

/-- R250: the engine step is total and never faults. -/
def Obligations.EngineStepNeverStops : Prop :=
  ∀ s : State, Inv s → (∀ i, i < s.len.toNat → (s.msg.read i).isSome = true) →
    ∃ t, engineStep s = .next t

/-- R66 as the model's refusal (log entry 7). -/
def Obligations.MessageFixedWhileBusy : Prop :=
  ∀ (s : State), s.status = .busy →
    (∀ bytes, eventStep (.bindMessage bytes) s = .refused .messageChangedWhileBusy) ∧
    (∀ (off : BitVec 61) (b : Byte), off.toNat < s.len.toNat →
      eventStep (.writeMessage off b) s = .refused .messageChangedWhileBusy) ∧
    (∀ (off : BitVec 61) (b : Byte), s.len.toNat ≤ off.toNat →
      eventStep (.writeMessage off b) s = .next { s with msg := s.msg.write off.toNat b })

/-- R233 in DONE: LEN moves and BLOCK stays the number of blocks processed, so that R31 (v) is about the
length of the finished computation and not about LEN as rewritten (the model's reading, log entry 9). -/
def Obligations.LengthWriteInDoneMovesBlockCount : Prop :=
  ∀ (s : State) (v : Word), s.status = .done → s.block.toNat = blockCount s.len.toNat →
    blockCount (s.len.extractLsb' 32 32 ++ v : BitVec (32 + 32)).toNat ≠ blockCount s.len.toNat →
    ∃ t, exec (.wrLenLo v) s = .next t ∧ t.status = .done ∧ t.block.toNat ≠ blockCount t.len.toNat

/-- R285: the product of independent single-instance models. -/
def Obligations.InstancesAreIndependent : Prop :=
  ∀ (ss ts : List State) (k : Nat), k < ss.length → instanceStep ss k = .next ts →
    ts.length = ss.length ∧ (∀ j, j ≠ k → ts[j]? = ss[j]?) ∧
    (∃ s t, ss[k]? = some s ∧ ts[k]? = some t ∧ step s = .next t)

/-! ## Reset and invariants (70, 10) -/

/-- The rows of R301 that have a value, and its derived clause on the window. -/
def Obligations.ResetValues : Prop :=
  State.reset.status = .idle ∧ State.reset.phase = 0 ∧ State.reset.stepNo = 0 ∧
  State.reset.block = 0 ∧ State.reset.len = 0 ∧ State.reset.err = false ∧
  State.reset.errCause = .noCause ∧ ∀ off : BitVec 6, regRead State.reset off = 0

/-- R300 to R302; the lost transaction of R274. -/
def Obligations.ResetStepTakesResetState : Prop :=
  ∀ (s : State) (lost : Option HostTxn) (es : List Event), s.inbox = .reset lost :: es →
    ∃ t, step s = .next t ∧ t.status = .idle ∧ t.phase = 0 ∧ t.stepNo = 0 ∧ t.block = 0 ∧
      t.len = 0 ∧ t.err = false ∧ t.errCause = .noCause ∧ t.msg = s.msg ∧ t.inbox = es ∧
      t.replies = s.replies

/-- R31 at reset; no computation has been started, so its length may be any L. -/
def Obligations.ResetKeepsInvariant : Prop :=
  Inv State.reset ∧ ∀ L, ComputationOf L State.reset

/-- R31 is inductive: (i) to (iv) as Inv; (v) and R34 of the length L of the computation (the model's
reading, log entry 9); and (v) as written, of LEN, until a step in DONE changes LEN (R233). -/
def Obligations.StepKeepsInvariant : Prop :=
  ∀ s t : State, Inv s → step s = .next t →
    Inv t ∧
    (∀ L, ComputationOf L s → ComputationOf (lengthAfter L s t) t) ∧
    ((s.status = .done → s.block.toNat = blockCount s.len.toNat) → t.status = .done →
      t.block.toNat = blockCount t.len.toNat ∨ (s.status = .done ∧ t.len ≠ s.len))

/-- R24, R25, R27: the reset values of A to D, a to d and X are unobservable. -/
def Obligations.HiddenStateUnobservable : Prop :=
  ∀ s t : State, Indistinguishable s t → OutcomeRel Indistinguishable (step s) (step t)

/-! ## Padder, codec, parser (40, 41) -/

/-- R103. -/
def Obligations.PaddingLaws : Prop :=
  ∀ L : Nat, padZeros L ≤ 63 ∧ (L + 1 + padZeros L) % 64 = 56 ∧
    1 ≤ (pad L).length ∧ (pad L).length ≤ 64 ∧ (pad L)[0]? = some 0x80 ∧
    (∀ i, 0 < i → i < (pad L).length → (pad L)[i]? = some 0x00) ∧
    (∀ k, k ≤ 63 → (L + 1 + k) % 64 = 56 → k = padZeros L)

/-- R100, bit by bit. -/
def Obligations.LengthFieldBytes : Prop :=
  ∀ b : BitVec 64, (encodeLength b).length = 8 ∧
    ∀ k m, k < 8 → m < 8 → ((encodeLength b).getD k 0).getLsbD m = b.getLsbD (8 * k + m)

/-- R106 against R104. -/
def Obligations.PaddedStreamIsPaddedBuffer : Prop :=
  ∀ M : List Byte, (padded M).length = paddedLength M.length ∧
    ∀ i, i < paddedLength M.length →
      (padded M)[i]? = some (paddedByte (fun k => M.getD k 0) M.length i)

/-- R107, with T(L) of R105. -/
def Obligations.BlockCountClosedForm : Prop :=
  ∀ L : Nat, paddedLength L = L + 1 + padZeros L + 8 ∧ paddedLength L % 64 = 0 ∧
    paddedLength L = 64 * blockCount L ∧
    blockCount L = (L + 8) / 64 + 1 ∧ blockCount L = (L + 72) / 64

/-- R108. -/
def Obligations.LengthFieldIsLastTwoWords : Prop :=
  ∀ M : List Byte, M.length ≤ 2 ^ 61 - 1 →
    (padded M)[64 * (M.length / 64) + M.length % 64]? = some 0x80 ∧
    (parseBlock (padded M) (blockCount M.length - 1)).get 14 = (bitlen M.length).extractLsb' 0 32 ∧
    (parseBlock (padded M) (blockCount M.length - 1)).get 15 = (bitlen M.length).extractLsb' 32 32 ∧
    (bitlen M.length).toNat = 8 * M.length ∧
    (M.length % 64 < 56 → blockCount M.length - 1 = M.length / 64) ∧
    (56 ≤ M.length % 64 → blockCount M.length - 1 = M.length / 64 + 1)

/-- R120. -/
def Obligations.WordAssemblyIsLittleEndian : Prop :=
  ∀ (B : List Byte) (j m i : Nat), j ≤ 15 → m < 4 → i < 8 →
    (blockWord B j).getLsbD (8 * m + i) = (B.getD (4 * j + m) 0).getLsbD i

/-! ## Arithmetic, nonlinear and step functions (42, 43, 44) -/

/-- R140 and R144. -/
def Obligations.LaneTables : Prop :=
  ∀ (x y z : Word) (i : Nat), i < 32 →
    (F x y z).getLsbD i = (if x.getLsbD i then y.getLsbD i else z.getLsbD i) ∧
    (G x y z).getLsbD i = decide (2 ≤ (x.getLsbD i).toNat + (y.getLsbD i).toNat + (z.getLsbD i).toNat) ∧
    (H x y z).getLsbD i =
      decide (((x.getLsbD i).toNat + (y.getLsbD i).toNat + (z.getLsbD i).toNat) % 2 = 1)

/-- R145. -/
def Obligations.GateForms : Prop :=
  ∀ x y z : Word, F x y z = z ^^^ (x &&& (y ^^^ z)) ∧ G x y z = (x &&& y) ||| (z &&& (x ||| y))

/-- R160 and R162. -/
def Obligations.AdditionAndRotation : Prop :=
  (∀ x y : Word, (add32 x y).toNat = (x.toNat + y.toNat) % 2 ^ 32) ∧
  (∀ x y z : Word, add32 x y = add32 y x ∧ add32 (add32 x y) z = add32 x (add32 y z)) ∧
  (∀ (v : Word) (s i : Nat), s ≤ 31 → i < 32 →
    (rotl32 v s).getLsbD i = v.getLsbD ((i + 32 - s) % 32))

/-- R165 to R167, with the word type's own addition. -/
def Obligations.StepFunctionForms : Prop :=
  ∀ (p q u v w : Word) (s : Nat),
    T1 p q u v w s = rotl32 (p + F q u v + w) s ∧
    T2 p q u v w s = rotl32 (p + G q u v + w + 0x5A827999) s ∧
    T3 p q u v w s = rotl32 (p + H q u v + w + 0x6ED9EBA1) s

/-- R182. -/
def Obligations.ScheduleProperties : Prop :=
  (∀ r ∈ [Round.one, .two, .three], ∀ i j : Fin 16,
    (wordIndex r).get i = (wordIndex r).get j → i = j) ∧
  (∀ j : Fin 16, ((wordIndex .two).get j).val = 4 * (j.val % 4) + j.val / 4) ∧
  (∀ j : Fin 16, ((wordIndex .three).get j).val =
    8 * (j.val % 2) + 4 * (j.val / 2 % 2) + 2 * (j.val / 4 % 2) + j.val / 8) ∧
  (∀ r ∈ [Round.one, .two, .three], ∀ j : Fin 16,
    rotation r j ∈ [3, 5, 7, 9, 11, 13, 15, 19])

/-- R181 against the schedules of R180 that the meanings use. -/
def Obligations.StepTableAgreesWithRounds : Prop :=
  ∀ (r : Round) (n : Nat) (j : Fin 16) (X : Vector Word 16) (q : Quad),
    (r = .one ∧ n = 0) ∨ (r = .two ∧ n = 1) ∨ (r = .three ∧ n = 2) →
    ∃ row, stepTable[16 * n + j.val]? = some row ∧ row.apply X q = roundWork r j X q

/-! ## The digest (44, 45, 46, 70) -/

/-- R190: LOAD, ROUND s = 0 to 47, ACCUM of one block. -/
def Obligations.BlockRunIsCompress : Prop :=
  ∀ (s : State) (M : List Byte), Inv s → MessageHolds s M → s.status = .busy → s.phase = 1 →
    s.inbox = [] →
    ∃ t, run 50 s = .next t ∧
      t.acc = compress s.acc (parseBlock (padded M) s.block.toNat) ∧
      t.block.toNat = s.block.toNat + 1 ∧
      t.phase = (if s.block.toNat + 1 < blockCount M.length then 1 else 4) ∧
      t.stepNo = 0 ∧ t.status = .busy ∧ t.len = s.len ∧ t.err = s.err ∧
      t.errCause = s.errCause ∧ t.msg = s.msg ∧ t.inbox = [] ∧ t.replies = s.replies

/-- The engine correctness theorem, R218. -/
def Obligations.EngineComputesDigest : Prop :=
  ∀ (s : State) (M : List Byte) (evs rest : List Event), Inv s → s.status ≠ .busy →
    MessageHolds s M → M.length ≤ 2 ^ 61 - 1 →
    s.inbox = .host startTxn :: (evs ++ .engine :: rest) →
    (∀ e ∈ evs, e.plain = true) → evs.count .engine = 50 * blockCount M.length →
    (∀ k m, k ≤ evs.length → m = (evs.take k).count .engine →
      ∃ u, run (k + 1) s = .next u ∧ u.status = .busy ∧ u.block.toNat = m / 50 ∧
        u.phase = (if m = 50 * blockCount M.length then 4#3 else if m % 50 = 0 then 1#3
          else if m % 50 = 49 then 3#3 else 2#3) ∧
        u.stepNo.toNat = (if m % 50 = 0 ∨ m % 50 = 49 then 0 else m % 50 - 1)) ∧
    ∃ t, run (evs.length + 2) s = .next t ∧ t.status = .done ∧ t.acc = digestWords M ∧
      t.block.toNat = blockCount M.length ∧ t.inbox = rest ∧
      regRead t 0x20 = (digestWords M).a ∧ regRead t 0x24 = (digestWords M).b ∧
      regRead t 0x28 = (digestWords M).c ∧ regRead t 0x2C = (digestWords M).d

/-- R316; one poll read and one engine step alternate (log entry 3). -/
def Obligations.WaitForDoneEnds : Prop :=
  ∀ (s : State) (M : List Byte), Inv s → s.status ≠ .busy → MessageHolds s M →
    M.length ≤ 2 ^ 61 - 1 → s.inbox = [.host startTxn, .poll 0x04 0x00000003 0x00000002] →
    (∀ k, k < 2 * (50 * blockCount M.length + 1) + 2 → ∃ u, run k s = .next u ∧ u.inbox ≠ []) ∧
    ∃ t, run (2 * (50 * blockCount M.length + 1) + 2) s = .next t ∧ t.inbox = [] ∧
      t.status = .done ∧ t.acc = digestWords M

/-- R316: after a reset during BUSY the poll never ends. -/
def Obligations.WaitForDoneWithoutStartNeverEnds : Prop :=
  ∀ (s : State) (k : Nat), Inv s → s.status = .idle →
    s.inbox = [.poll 0x04 0x00000003 0x00000002] →
    ∃ u, run k s = .next u ∧ u.status = .idle ∧
      .poll 0x04 0x00000003 0x00000002 ∈ u.inbox

/-- R217, and the byte lanes that R57 and R76 derive from it. -/
def Obligations.DigestBytesAndLanes : Prop :=
  (∀ M : List Byte, (digest M).length = 16 ∧
    ∀ m, m < 4 →
      (digest M)[m]? = some ((digestWords M).a.extractLsb' (8 * m) 8) ∧
      (digest M)[4 + m]? = some ((digestWords M).b.extractLsb' (8 * m) 8) ∧
      (digest M)[8 + m]? = some ((digestWords M).c.extractLsb' (8 * m) 8) ∧
      (digest M)[12 + m]? = some ((digestWords M).d.extractLsb' (8 * m) 8)) ∧
  (∀ (s : State) (k m : Nat), s.status = .done → k < 4 → m < 4 →
    (digestBytes s.acc)[4 * k + m]? =
      some ((regRead s (BitVec.ofNat 6 (0x20 + 4 * k))).extractLsb' (8 * m) 8))
end

