-- ==== Sys2Proof/Laws/Arith.lean ====
section
/-! SUPPORT. The adder and the rotation in terms of the word type's own operations. -/

namespace Sys2Proof.Machine

/-- The modular adder is the word type's addition. -/
theorem add32_eq_add (x y : Word) : add32 x y = x + y := by
  apply BitVec.eq_of_toNat_eq
  simp [add32, BitVec.toNat_add]

/-- The four additions of ACCUM, one register each. -/
theorem Quad.add_eq (p q : Quad) :
    p.add q = { a := p.a + q.a, b := p.b + q.b, c := p.c + q.c, d := p.d + q.d } := by
  simp [Quad.add, add32_eq_add]

/-- Rotation by 0 is the identity (R162). -/
@[simp] theorem rotl32_zero (v : Word) : rotl32 v 0 = v := rfl

end Sys2Proof.Machine
end

