-- ==== Sys2Proof/Laws/Codec.lean ====
section
/-! SUPPORT. Bounds on the block count that keep BLOCK and the bit length from wrapping. -/

namespace Sys2Proof.Machine

/-- Every message has at least one block. -/
theorem blockCount_pos (L : Nat) : 0 < blockCount L := by
  unfold blockCount paddedLength padZeros
  split <;> omega

/-- BLOCK cannot overflow (R34): N(L) ≤ 2^55 + 1 for L ≤ MAX_LEN. -/
theorem blockCount_le {L : Nat} (h : L ≤ 2 ^ 61 - 1) : blockCount L ≤ 2 ^ 55 + 1 := by
  unfold blockCount paddedLength padZeros
  split <;> omega

/-- Within MAX_LEN the bit length is the word 8 · L; the free value is used above it only. -/
theorem bitlen_eq {L : Nat} (h : L ≤ 2 ^ 61 - 1) : bitlen L = BitVec.ofNat 64 (8 * L) :=
  if_pos h

/-- The bit length is exact for L ≤ MAX_LEN (R101). -/
theorem bitlen_toNat {L : Nat} (h : L ≤ 2 ^ 61 - 1) : (bitlen L).toNat = 8 * L := by
  rw [bitlen_eq h, BitVec.toNat_ofNat]
  omega

theorem encodeLength_length (b : DWord) : (encodeLength b).length = 8 := rfl

theorem pad_length (L : Nat) : (pad L).length = 1 + padZeros L := by
  simp [pad]; omega

end Sys2Proof.Machine
end

