-- ==== Sys2Proof/Laws/Decode.lean ====
section
/-! SUPPORT. Fields of packed words, and what the decoder can answer. -/

namespace Sys2Proof

/-- Unpacking a packed record gives it back (R78). -/
@[simp] theorem HostTxn.unpack_pack (t : HostTxn) : HostTxn.unpack t.pack = t := by
  obtain ⟨w, off, data⟩ := t
  have h1 : (BitVec.ofBool w ++ off ++ data : BitVec (1 + 6 + 32)).getLsbD 38 = w := by
    simp only [BitVec.getLsbD_append]
    simp
  have h2 : (BitVec.ofBool w ++ off ++ data : BitVec (1 + 6 + 32)).extractLsb' 32 6 = off := by
    apply BitVec.eq_of_getLsbD_eq
    intro i hi
    simp only [BitVec.getLsbD_extractLsb', BitVec.getLsbD_append]
    simp [hi]
  have h3 : (BitVec.ofBool w ++ off ++ data : BitVec (1 + 6 + 32)).extractLsb' 0 32 = data := by
    apply BitVec.eq_of_getLsbD_eq
    intro i hi
    simp only [BitVec.getLsbD_extractLsb', BitVec.getLsbD_append]
    simp [hi]
  exact congr (congr (congrArg HostTxn.mk h1) h2) h3

/-- Packing an unpacked record gives the word back (R78). -/
@[simp] theorem HostTxn.pack_unpack (w : BitVec 39) : (HostTxn.unpack w).pack = w := by
  apply BitVec.eq_of_getLsbD_eq
  intro i hi
  change (BitVec.ofBool (w.getLsbD 38) ++ w.extractLsb' 32 6 ++ w.extractLsb' 0 32 :
    BitVec (1 + 6 + 32)).getLsbD i = w.getLsbD i
  simp only [BitVec.getLsbD_append, BitVec.getLsbD_extractLsb']
  by_cases h1 : i < 32
  · simp [h1]
  · by_cases h2 : i < 38
    · have h4 : i - 32 < 6 := by omega
      have h5 : 32 + (i - 32) = i := by omega
      simp [h1, h4, h5]
    · have : i = 38 := by omega
      subst this
      simp

/-- The PHASE field of an assembled sequencer word. -/
@[simp] theorem seqPhase_append (p : BitVec 3) (st : BitVec 6) :
    seqPhase (p ++ st : BitVec (3 + 6)) = p := by
  revert p st
  decide

/-- The STEP field of an assembled sequencer word. -/
@[simp] theorem seqStep_append (p : BitVec 3) (st : BitVec 6) :
    seqStep (p ++ st : BitVec (3 + 6)) = st := by
  revert p st
  decide

namespace Machine

@[simp] theorem seqPhase_seq (s : State) : seqPhase s.seq = s.phase := seqPhase_append _ _

@[simp] theorem seqStep_seq (s : State) : seqStep s.seq = s.stepNo := seqStep_append _ _

end Machine

/-- The ROUND of a STEP value: a micro-operation with round and step as R181 says, or a rejection. -/
theorem decodeRound_spec (st : BitVec 6) (h : st.toNat < 48) :
    ∃ i r j, decodeRound st = .ok i ∧ i.roundOf = some (r, j) ∧ j.val = st.toNat % 16 ∧
      r = (if st.toNat < 16 then Round.one else if st.toNat < 32 then Round.two else Round.three) := by
  have key : ∀ st : BitVec 6, st.toNat < 48 →
      (match decodeRound st with
        | .ok i => decide (i.roundOf = some
            (if st.toNat < 16 then Round.one else if st.toNat < 32 then Round.two else Round.three,
              ⟨st.toNat % 16, Nat.mod_lt _ (by decide)⟩))
        | .error _ => false) = true := by decide
  have hk := key st h
  cases hd : decodeRound st with
  | ok i =>
    rw [hd] at hk
    exact ⟨i, _, _, rfl, of_decide_eq_true hk, rfl, rfl⟩
  | error e =>
    rw [hd] at hk
    cases hk

/-- What a sequencer word can decode to, with the fields it then has (R80). -/
theorem decodeSeq_ok {w : BitVec 9} {i : Instr} (h : decodeSeq w = .ok i) :
    (i = .load ∧ seqPhase w = 1 ∧ seqStep w = 0) ∨
    (i = .accum ∧ seqPhase w = 3 ∧ seqStep w = 0) ∨
    (i = .final ∧ seqPhase w = 4 ∧ seqStep w = 0) ∨
    (i.roundOf ≠ none ∧ seqPhase w = 2 ∧ (seqStep w).toNat < 48) := by
  have key : ∀ st : BitVec 6, ¬ st.toNat < 48 →
      decodeRound st = .error .unreachableSequencerWord := by decide
  unfold decodeSeq at h
  split_ifs at h with h1 h2 h3 h4 h5 h6
  · by_cases hs : (seqStep w).toNat < 48
    · obtain ⟨i', r, j, hi, hr, -⟩ := decodeRound_spec _ hs
      rw [hi] at h
      cases h
      exact .inr (.inr (.inr ⟨by simp [hr], h1, hs⟩))
    · rw [key _ hs] at h
      cases h
  all_goals (cases h; simp_all)

end Sys2Proof
end

