-- ==== Sys2Proof/Laws/Memory.lean ====
section
/-! SUPPORT. The message memory: read after write, and every operation keeps the canonical form. -/

namespace Sys2Proof.Machine

@[simp] theorem Memory.read_nil (i : Nat) : Memory.read [] i = unlisted := rfl

theorem Memory.read_cons (a : Nat) (b : Byte) (m : Memory) (i : Nat) :
    Memory.read ((a, b) :: m) i = if i = a then some b else Memory.read m i := rfl

theorem Memory.wf_cons (a : Nat) (b : Byte) (m : Memory) :
    Memory.wf ((a, b) :: m) = true ↔
      some b ≠ unlisted ∧ (∀ cell ∈ m, a < cell.1) ∧ Memory.wf m = true := by
  simp [Memory.wf, and_assoc]

/-- No byte equals what an unlisted offset reads as (log entry 6). -/
@[simp] theorem some_ne_unlisted (b : Byte) : some b ≠ unlisted := by simp [unlisted]

theorem Memory.read_of_all_lt {m : Memory} {i : Nat} (h : ∀ cell ∈ m, i < cell.1) :
    m.read i = unlisted := by
  induction m with
  | nil => rfl
  | cons cell m ih =>
    obtain ⟨a, b⟩ := cell
    have ha : i < a := h (a, b) (by simp)
    rw [Memory.read_cons, if_neg (by omega)]
    exact ih fun c hc => h c (by simp [hc])

/-- A read after a write of the same offset gives the byte written. -/
theorem Memory.read_write_same (m : Memory) (i : Nat) (v : Byte) : (m.write i v).read i = some v := by
  induction m with
  | nil => simp [Memory.write, Memory.read_cons]
  | cons cell m ih =>
    obtain ⟨a, b⟩ := cell
    simp only [Memory.write]
    split_ifs <;> simp_all [Memory.read_cons]

/-- A write leaves every other offset alone. -/
theorem Memory.read_write_other (m : Memory) {i k : Nat} (v : Byte) (h : k ≠ i) :
    (m.write i v).read k = m.read k := by
  induction m with
  | nil => simp [Memory.write, Memory.read_cons, h]
  | cons cell m ih =>
    obtain ⟨a, b⟩ := cell
    simp only [Memory.write]
    split_ifs <;> simp_all [Memory.read_cons]

theorem Memory.mem_write {m : Memory} {i : Nat} {v : Byte} {cell : Host.Cell}
    (h : cell ∈ m.write i v) : cell.1 = i ∨ cell ∈ m := by
  induction m with
  | nil => simp_all [Memory.write]
  | cons c m ih =>
    obtain ⟨a, b⟩ := c
    simp only [Memory.write] at h
    split_ifs at h <;> simp only [List.mem_cons] at h ⊢ <;> grind

/-- A write keeps the canonical form. -/
theorem Memory.wf_write {m : Memory} (h : m.wf = true) (i : Nat) (v : Byte) :
    (m.write i v).wf = true := by
  induction m with
  | nil => simp [Memory.write, Memory.wf]
  | cons c m ih =>
    obtain ⟨a, b⟩ := c
    obtain ⟨-, hlt, hm⟩ := (Memory.wf_cons a b m).1 h
    simp only [Memory.write, some_ne_unlisted, if_false]
    split_ifs with h1 h2
    · refine (Memory.wf_cons _ _ _).2 ⟨by simp, ?_, h⟩
      intro cell hc
      rcases List.mem_cons.1 hc with rfl | hc
      · exact h1
      · exact lt_trans h1 (hlt cell hc)
    · exact (Memory.wf_cons _ _ _).2 ⟨by simp, by simpa [h2] using hlt, hm⟩
    · refine (Memory.wf_cons _ _ _).2 ⟨by simp, ?_, ih hm⟩
      intro cell hc
      rcases Memory.mem_write hc with hc | hc
      · omega
      · exact hlt cell hc

theorem Memory.ofBytesAt_ge {i : Nat} {bs : List Byte} {cell : Host.Cell}
    (h : cell ∈ Memory.ofBytesAt i bs) : i ≤ cell.1 := by
  induction bs generalizing i with
  | nil => simp [Memory.ofBytesAt] at h
  | cons b bs ih =>
    simp only [Memory.ofBytesAt, some_ne_unlisted, if_false, List.mem_cons] at h
    rcases h with rfl | h
    · exact le_rfl
    · have := ih h
      omega

theorem Memory.wf_ofBytesAt (i : Nat) (bs : List Byte) : (Memory.ofBytesAt i bs).wf = true := by
  induction bs generalizing i with
  | nil => rfl
  | cons b bs ih =>
    simp only [Memory.ofBytesAt, some_ne_unlisted, if_false]
    exact (Memory.wf_cons _ _ _).2 ⟨by simp, fun c hc => Memory.ofBytesAt_ge hc, ih _⟩

/-- A bound message is in canonical form. -/
theorem Memory.wf_ofBytes (bs : List Byte) : (Memory.ofBytes bs).wf = true :=
  Memory.wf_ofBytesAt 0 bs

theorem Memory.read_ofBytesAt (i k : Nat) (bs : List Byte) :
    (Memory.ofBytesAt i bs).read (i + k) = bs[k]? := by
  induction bs generalizing i k with
  | nil => rfl
  | cons b bs ih =>
    simp only [Memory.ofBytesAt, some_ne_unlisted, if_false, Memory.read_cons]
    cases k with
    | zero => simp
    | succ k =>
      rw [if_neg (by omega), show i + (k + 1) = i + 1 + k by omega, ih]
      simp

/-- A bound message reads back byte by byte (R50). -/
theorem Memory.read_ofBytes (bs : List Byte) (k : Nat) : (Memory.ofBytes bs).read k = bs[k]? := by
  have h := Memory.read_ofBytesAt 0 k bs
  rwa [Nat.zero_add] at h

/-- A read that is present is `byteAt`. -/
theorem Memory.byteAt_of_read {m : Memory} {i : Nat} {b : Byte} (h : m.read i = some b) :
    m.byteAt i = b := by
  simp [Memory.byteAt, h]

/-- What `blockPresent` checks: every offset below L in block n has a byte. -/
theorem blockPresent_iff (m : Memory) (L n : Nat) :
    blockPresent m L n = true ↔ ∀ i, i < L → i / 64 = n → (m.read i).isSome = true := by
  simp only [blockPresent, List.all_eq_true, List.mem_range, Bool.or_eq_true, decide_eq_true_eq]
  constructor
  · intro h i hi hn
    have := h (i % 64) (Nat.mod_lt _ (by omega))
    rw [show 64 * n + i % 64 = i by omega] at this
    exact this.resolve_left (by omega)
  · intro h k hk
    by_cases hL : L ≤ 64 * n + k
    · exact .inl hL
    · exact .inr (h _ (by omega) (by omega))

end Sys2Proof.Machine
end

