-- ==== Sys2Proof/Laws/State.lean ====
section
/-! SUPPORT. One lemma per field per named update of the state. -/

namespace Sys2Proof.Machine

variable (s : State)

/-! ### setSeq -/

@[simp] theorem State.setSeq_acc (p : BitVec 3) (n : BitVec 6) : (s.setSeq p n).acc = s.acc := rfl
@[simp] theorem State.setSeq_work (p : BitVec 3) (n : BitVec 6) : (s.setSeq p n).work = s.work := rfl
@[simp] theorem State.setSeq_X (p : BitVec 3) (n : BitVec 6) : (s.setSeq p n).X = s.X := rfl
@[simp] theorem State.setSeq_status (p : BitVec 3) (n : BitVec 6) : (s.setSeq p n).status = s.status := rfl
@[simp] theorem State.setSeq_phase (p : BitVec 3) (n : BitVec 6) : (s.setSeq p n).phase = p := rfl
@[simp] theorem State.setSeq_stepNo (p : BitVec 3) (n : BitVec 6) : (s.setSeq p n).stepNo = n := rfl
@[simp] theorem State.setSeq_block (p : BitVec 3) (n : BitVec 6) : (s.setSeq p n).block = s.block := rfl
@[simp] theorem State.setSeq_len (p : BitVec 3) (n : BitVec 6) : (s.setSeq p n).len = s.len := rfl
@[simp] theorem State.setSeq_err (p : BitVec 3) (n : BitVec 6) : (s.setSeq p n).err = s.err := rfl
@[simp] theorem State.setSeq_errCause (p : BitVec 3) (n : BitVec 6) : (s.setSeq p n).errCause = s.errCause := rfl
@[simp] theorem State.setSeq_msg (p : BitVec 3) (n : BitVec 6) : (s.setSeq p n).msg = s.msg := rfl
@[simp] theorem State.setSeq_inbox (p : BitVec 3) (n : BitVec 6) : (s.setSeq p n).inbox = s.inbox := rfl
@[simp] theorem State.setSeq_replies (p : BitVec 3) (n : BitVec 6) : (s.setSeq p n).replies = s.replies := rfl

/-! ### setLen -/

@[simp] theorem State.setLen_acc (L : BitVec 64) : (s.setLen L).acc = s.acc := rfl
@[simp] theorem State.setLen_work (L : BitVec 64) : (s.setLen L).work = s.work := rfl
@[simp] theorem State.setLen_X (L : BitVec 64) : (s.setLen L).X = s.X := rfl
@[simp] theorem State.setLen_status (L : BitVec 64) : (s.setLen L).status = s.status := rfl
@[simp] theorem State.setLen_phase (L : BitVec 64) : (s.setLen L).phase = s.phase := rfl
@[simp] theorem State.setLen_stepNo (L : BitVec 64) : (s.setLen L).stepNo = s.stepNo := rfl
@[simp] theorem State.setLen_block (L : BitVec 64) : (s.setLen L).block = s.block := rfl
@[simp] theorem State.setLen_len (L : BitVec 64) : (s.setLen L).len = L := rfl
@[simp] theorem State.setLen_err (L : BitVec 64) : (s.setLen L).err = s.err := rfl
@[simp] theorem State.setLen_errCause (L : BitVec 64) : (s.setLen L).errCause = s.errCause := rfl
@[simp] theorem State.setLen_msg (L : BitVec 64) : (s.setLen L).msg = s.msg := rfl
@[simp] theorem State.setLen_inbox (L : BitVec 64) : (s.setLen L).inbox = s.inbox := rfl
@[simp] theorem State.setLen_replies (L : BitVec 64) : (s.setLen L).replies = s.replies := rfl

/-! ### setWork -/

@[simp] theorem State.setWork_acc (q : Quad) : (s.setWork q).acc = s.acc := rfl
@[simp] theorem State.setWork_work (q : Quad) : (s.setWork q).work = q := rfl
@[simp] theorem State.setWork_X (q : Quad) : (s.setWork q).X = s.X := rfl
@[simp] theorem State.setWork_status (q : Quad) : (s.setWork q).status = s.status := rfl
@[simp] theorem State.setWork_phase (q : Quad) : (s.setWork q).phase = s.phase := rfl
@[simp] theorem State.setWork_stepNo (q : Quad) : (s.setWork q).stepNo = s.stepNo := rfl
@[simp] theorem State.setWork_block (q : Quad) : (s.setWork q).block = s.block := rfl
@[simp] theorem State.setWork_len (q : Quad) : (s.setWork q).len = s.len := rfl
@[simp] theorem State.setWork_err (q : Quad) : (s.setWork q).err = s.err := rfl
@[simp] theorem State.setWork_errCause (q : Quad) : (s.setWork q).errCause = s.errCause := rfl
@[simp] theorem State.setWork_msg (q : Quad) : (s.setWork q).msg = s.msg := rfl
@[simp] theorem State.setWork_inbox (q : Quad) : (s.setWork q).inbox = s.inbox := rfl
@[simp] theorem State.setWork_replies (q : Quad) : (s.setWork q).replies = s.replies := rfl

/-! ### setMsg -/

@[simp] theorem State.setMsg_acc (m : Memory) : (s.setMsg m).acc = s.acc := rfl
@[simp] theorem State.setMsg_work (m : Memory) : (s.setMsg m).work = s.work := rfl
@[simp] theorem State.setMsg_X (m : Memory) : (s.setMsg m).X = s.X := rfl
@[simp] theorem State.setMsg_status (m : Memory) : (s.setMsg m).status = s.status := rfl
@[simp] theorem State.setMsg_phase (m : Memory) : (s.setMsg m).phase = s.phase := rfl
@[simp] theorem State.setMsg_stepNo (m : Memory) : (s.setMsg m).stepNo = s.stepNo := rfl
@[simp] theorem State.setMsg_block (m : Memory) : (s.setMsg m).block = s.block := rfl
@[simp] theorem State.setMsg_len (m : Memory) : (s.setMsg m).len = s.len := rfl
@[simp] theorem State.setMsg_err (m : Memory) : (s.setMsg m).err = s.err := rfl
@[simp] theorem State.setMsg_errCause (m : Memory) : (s.setMsg m).errCause = s.errCause := rfl
@[simp] theorem State.setMsg_msg (m : Memory) : (s.setMsg m).msg = m := rfl
@[simp] theorem State.setMsg_inbox (m : Memory) : (s.setMsg m).inbox = s.inbox := rfl
@[simp] theorem State.setMsg_replies (m : Memory) : (s.setMsg m).replies = s.replies := rfl

/-! ### setInbox -/

@[simp] theorem State.setInbox_acc (es : List Event) : (s.setInbox es).acc = s.acc := rfl
@[simp] theorem State.setInbox_work (es : List Event) : (s.setInbox es).work = s.work := rfl
@[simp] theorem State.setInbox_X (es : List Event) : (s.setInbox es).X = s.X := rfl
@[simp] theorem State.setInbox_status (es : List Event) : (s.setInbox es).status = s.status := rfl
@[simp] theorem State.setInbox_phase (es : List Event) : (s.setInbox es).phase = s.phase := rfl
@[simp] theorem State.setInbox_stepNo (es : List Event) : (s.setInbox es).stepNo = s.stepNo := rfl
@[simp] theorem State.setInbox_block (es : List Event) : (s.setInbox es).block = s.block := rfl
@[simp] theorem State.setInbox_len (es : List Event) : (s.setInbox es).len = s.len := rfl
@[simp] theorem State.setInbox_err (es : List Event) : (s.setInbox es).err = s.err := rfl
@[simp] theorem State.setInbox_errCause (es : List Event) : (s.setInbox es).errCause = s.errCause := rfl
@[simp] theorem State.setInbox_msg (es : List Event) : (s.setInbox es).msg = s.msg := rfl
@[simp] theorem State.setInbox_inbox (es : List Event) : (s.setInbox es).inbox = es := rfl
@[simp] theorem State.setInbox_replies (es : List Event) : (s.setInbox es).replies = s.replies := rfl

/-! ### reply -/

@[simp] theorem State.reply_acc (v : Word) : (s.reply v).acc = s.acc := rfl
@[simp] theorem State.reply_work (v : Word) : (s.reply v).work = s.work := rfl
@[simp] theorem State.reply_X (v : Word) : (s.reply v).X = s.X := rfl
@[simp] theorem State.reply_status (v : Word) : (s.reply v).status = s.status := rfl
@[simp] theorem State.reply_phase (v : Word) : (s.reply v).phase = s.phase := rfl
@[simp] theorem State.reply_stepNo (v : Word) : (s.reply v).stepNo = s.stepNo := rfl
@[simp] theorem State.reply_block (v : Word) : (s.reply v).block = s.block := rfl
@[simp] theorem State.reply_len (v : Word) : (s.reply v).len = s.len := rfl
@[simp] theorem State.reply_err (v : Word) : (s.reply v).err = s.err := rfl
@[simp] theorem State.reply_errCause (v : Word) : (s.reply v).errCause = s.errCause := rfl
@[simp] theorem State.reply_msg (v : Word) : (s.reply v).msg = s.msg := rfl
@[simp] theorem State.reply_inbox (v : Word) : (s.reply v).inbox = s.inbox := rfl
@[simp] theorem State.reply_replies (v : Word) : (s.reply v).replies = v :: s.replies := rfl

/-! ### clearHostError -/

@[simp] theorem State.clearHostError_acc : s.clearHostError.acc = s.acc := rfl
@[simp] theorem State.clearHostError_work : s.clearHostError.work = s.work := rfl
@[simp] theorem State.clearHostError_X : s.clearHostError.X = s.X := rfl
@[simp] theorem State.clearHostError_status : s.clearHostError.status = s.status := rfl
@[simp] theorem State.clearHostError_phase : s.clearHostError.phase = s.phase := rfl
@[simp] theorem State.clearHostError_stepNo : s.clearHostError.stepNo = s.stepNo := rfl
@[simp] theorem State.clearHostError_block : s.clearHostError.block = s.block := rfl
@[simp] theorem State.clearHostError_len : s.clearHostError.len = s.len := rfl
@[simp] theorem State.clearHostError_err : s.clearHostError.err = false := rfl
@[simp] theorem State.clearHostError_errCause : s.clearHostError.errCause = .noCause := rfl
@[simp] theorem State.clearHostError_msg : s.clearHostError.msg = s.msg := rfl
@[simp] theorem State.clearHostError_inbox : s.clearHostError.inbox = s.inbox := rfl
@[simp] theorem State.clearHostError_replies : s.clearHostError.replies = s.replies := rfl

/-! ### beginRun -/

@[simp] theorem State.beginRun_acc : s.beginRun.acc = iv := rfl
@[simp] theorem State.beginRun_work : s.beginRun.work = s.work := rfl
@[simp] theorem State.beginRun_X : s.beginRun.X = s.X := rfl
@[simp] theorem State.beginRun_status : s.beginRun.status = .busy := rfl
@[simp] theorem State.beginRun_phase : s.beginRun.phase = 1 := rfl
@[simp] theorem State.beginRun_stepNo : s.beginRun.stepNo = 0 := rfl
@[simp] theorem State.beginRun_block : s.beginRun.block = 0 := rfl
@[simp] theorem State.beginRun_len : s.beginRun.len = s.len := rfl
@[simp] theorem State.beginRun_err : s.beginRun.err = s.err := rfl
@[simp] theorem State.beginRun_errCause : s.beginRun.errCause = s.errCause := rfl
@[simp] theorem State.beginRun_msg : s.beginRun.msg = s.msg := rfl
@[simp] theorem State.beginRun_inbox : s.beginRun.inbox = s.inbox := rfl
@[simp] theorem State.beginRun_replies : s.beginRun.replies = s.replies := rfl

/-! ### loadBlock -/

@[simp] theorem State.loadBlock_acc (X : Vector Word 16) : (s.loadBlock X).acc = s.acc := rfl
@[simp] theorem State.loadBlock_work (X : Vector Word 16) : (s.loadBlock X).work = s.acc := rfl
@[simp] theorem State.loadBlock_X (X : Vector Word 16) : (s.loadBlock X).X = X := rfl
@[simp] theorem State.loadBlock_status (X : Vector Word 16) : (s.loadBlock X).status = s.status := rfl
@[simp] theorem State.loadBlock_phase (X : Vector Word 16) : (s.loadBlock X).phase = 2 := rfl
@[simp] theorem State.loadBlock_stepNo (X : Vector Word 16) : (s.loadBlock X).stepNo = 0 := rfl
@[simp] theorem State.loadBlock_block (X : Vector Word 16) : (s.loadBlock X).block = s.block := rfl
@[simp] theorem State.loadBlock_len (X : Vector Word 16) : (s.loadBlock X).len = s.len := rfl
@[simp] theorem State.loadBlock_err (X : Vector Word 16) : (s.loadBlock X).err = s.err := rfl
@[simp] theorem State.loadBlock_errCause (X : Vector Word 16) : (s.loadBlock X).errCause = s.errCause := rfl
@[simp] theorem State.loadBlock_msg (X : Vector Word 16) : (s.loadBlock X).msg = s.msg := rfl
@[simp] theorem State.loadBlock_inbox (X : Vector Word 16) : (s.loadBlock X).inbox = s.inbox := rfl
@[simp] theorem State.loadBlock_replies (X : Vector Word 16) : (s.loadBlock X).replies = s.replies := rfl

/-! ### raiseHostError -/

@[simp] theorem State.raiseHostError_acc (c : ErrCause) : (s.raiseHostError c).acc = s.acc := by
  unfold State.raiseHostError; split <;> rfl
@[simp] theorem State.raiseHostError_work (c : ErrCause) : (s.raiseHostError c).work = s.work := by
  unfold State.raiseHostError; split <;> rfl
@[simp] theorem State.raiseHostError_X (c : ErrCause) : (s.raiseHostError c).X = s.X := by
  unfold State.raiseHostError; split <;> rfl
@[simp] theorem State.raiseHostError_status (c : ErrCause) : (s.raiseHostError c).status = s.status := by
  unfold State.raiseHostError; split <;> rfl
@[simp] theorem State.raiseHostError_phase (c : ErrCause) : (s.raiseHostError c).phase = s.phase := by
  unfold State.raiseHostError; split <;> rfl
@[simp] theorem State.raiseHostError_stepNo (c : ErrCause) : (s.raiseHostError c).stepNo = s.stepNo := by
  unfold State.raiseHostError; split <;> rfl
@[simp] theorem State.raiseHostError_block (c : ErrCause) : (s.raiseHostError c).block = s.block := by
  unfold State.raiseHostError; split <;> rfl
@[simp] theorem State.raiseHostError_len (c : ErrCause) : (s.raiseHostError c).len = s.len := by
  unfold State.raiseHostError; split <;> rfl
@[simp] theorem State.raiseHostError_msg (c : ErrCause) : (s.raiseHostError c).msg = s.msg := by
  unfold State.raiseHostError; split <;> rfl
@[simp] theorem State.raiseHostError_inbox (c : ErrCause) : (s.raiseHostError c).inbox = s.inbox := by
  unfold State.raiseHostError; split <;> rfl
@[simp] theorem State.raiseHostError_replies (c : ErrCause) : (s.raiseHostError c).replies = s.replies := by
  unfold State.raiseHostError; split <;> rfl
@[simp] theorem State.raiseHostError_err (c : ErrCause) : (s.raiseHostError c).err = true := by
  unfold State.raiseHostError; split <;> simp_all
@[simp] theorem State.raiseHostError_errCause (c : ErrCause) :
    (s.raiseHostError c).errCause = if s.err then s.errCause else c := by
  unfold State.raiseHostError; split <;> simp_all

/-! ### advanceRound and roundOp -/

@[simp] theorem advanceRound_acc : (advanceRound s).acc = s.acc := by
  unfold advanceRound; split <;> rfl
@[simp] theorem advanceRound_work : (advanceRound s).work = s.work := by
  unfold advanceRound; split <;> rfl
@[simp] theorem advanceRound_X : (advanceRound s).X = s.X := by
  unfold advanceRound; split <;> rfl
@[simp] theorem advanceRound_status : (advanceRound s).status = s.status := by
  unfold advanceRound; split <;> rfl
@[simp] theorem advanceRound_block : (advanceRound s).block = s.block := by
  unfold advanceRound; split <;> rfl
@[simp] theorem advanceRound_len : (advanceRound s).len = s.len := by
  unfold advanceRound; split <;> rfl
@[simp] theorem advanceRound_err : (advanceRound s).err = s.err := by
  unfold advanceRound; split <;> rfl
@[simp] theorem advanceRound_errCause : (advanceRound s).errCause = s.errCause := by
  unfold advanceRound; split <;> rfl
@[simp] theorem advanceRound_msg : (advanceRound s).msg = s.msg := by
  unfold advanceRound; split <;> rfl
@[simp] theorem advanceRound_inbox : (advanceRound s).inbox = s.inbox := by
  unfold advanceRound; split <;> rfl
@[simp] theorem advanceRound_replies : (advanceRound s).replies = s.replies := by
  unfold advanceRound; split <;> rfl
theorem advanceRound_phase :
    (advanceRound s).phase = if s.stepNo.toNat < 47 then s.phase else 3 := by
  unfold advanceRound; split <;> rfl
theorem advanceRound_stepNo :
    (advanceRound s).stepNo = if s.stepNo.toNat < 47 then s.stepNo + 1 else 0 := by
  unfold advanceRound; split <;> rfl
@[simp] theorem roundOp_acc (r : Round) (j : Fin 16) : (roundOp r j s).acc = s.acc := by
  simp [roundOp]
@[simp] theorem roundOp_X (r : Round) (j : Fin 16) : (roundOp r j s).X = s.X := by
  simp [roundOp]
@[simp] theorem roundOp_status (r : Round) (j : Fin 16) : (roundOp r j s).status = s.status := by
  simp [roundOp]
@[simp] theorem roundOp_block (r : Round) (j : Fin 16) : (roundOp r j s).block = s.block := by
  simp [roundOp]
@[simp] theorem roundOp_len (r : Round) (j : Fin 16) : (roundOp r j s).len = s.len := by
  simp [roundOp]
@[simp] theorem roundOp_err (r : Round) (j : Fin 16) : (roundOp r j s).err = s.err := by
  simp [roundOp]
@[simp] theorem roundOp_errCause (r : Round) (j : Fin 16) : (roundOp r j s).errCause = s.errCause := by
  simp [roundOp]
@[simp] theorem roundOp_msg (r : Round) (j : Fin 16) : (roundOp r j s).msg = s.msg := by
  simp [roundOp]
@[simp] theorem roundOp_inbox (r : Round) (j : Fin 16) : (roundOp r j s).inbox = s.inbox := by
  simp [roundOp]
@[simp] theorem roundOp_replies (r : Round) (j : Fin 16) : (roundOp r j s).replies = s.replies := by
  simp [roundOp]
@[simp] theorem roundOp_work (r : Round) (j : Fin 16) :
    (roundOp r j s).work = roundWork r j s.X s.work := by
  simp [roundOp]
theorem roundOp_phase (r : Round) (j : Fin 16) :
    (roundOp r j s).phase = if s.stepNo.toNat < 47 then s.phase else 3 := by
  simp only [roundOp, advanceRound_phase]; rfl
theorem roundOp_stepNo (r : Round) (j : Fin 16) :
    (roundOp r j s).stepNo = if s.stepNo.toNat < 47 then s.stepNo + 1 else 0 := by
  simp only [roundOp, advanceRound_stepNo]; rfl

end Sys2Proof.Machine
end

