-- ==== Sys2Proof/Laws/Exec.lean ====
section
/-! SUPPORT. What each shared operation and each meaning can do, said once. -/

namespace Sys2Proof.Machine

/-- Recording an error, as one update (R272). -/
theorem raiseHostError_eq (s : State) (c : ErrCause) : s.raiseHostError c = withFirstCause s c := by
  unfold State.raiseHostError withFirstCause
  split
  · next h =>
    cases s
    simp_all
  · simp

/-- A ROUND as one update: the working copy, then the sequencing of R184. -/
theorem roundOp_eq (r : Round) (j : Fin 16) (s : State) :
    roundOp r j s = afterRound s (roundWork r j s.X s.work) := by
  unfold roundOp advanceRound afterRound State.setWork State.setSeq
  dsimp only
  split <;> rfl

/-- The 48 ROUND micro-operations are one operation, by round and step. -/
theorem exec_of_roundOf {i : Instr} {r : Round} {j : Fin 16} (h : i.roundOf = some (r, j)) (s : State) :
    exec i s = .next (roundOp r j s) := by
  cases i <;> simp only [Instr.roundOf, reduceCtorEq, Option.some.injEq, Prod.mk.injEq] at h <;>
    (obtain ⟨rfl, rfl⟩ := h; rfl)

/-- What LOAD can do (R125). -/
theorem execLoad_next {s t : State} (h : execLoad s = .next t) :
    s.len.toNat ≤ maxLen ∧ s.block.toNat < blockCount s.len.toNat ∧
    blockPresent s.msg s.len.toNat s.block.toNat = true ∧
    t = s.loadBlock (Vector.ofFn fun j => xword s.msg.byteAt s.len.toNat s.block.toNat j.val) := by
  unfold execLoad at h
  dsimp only at h
  split_ifs at h with h1 h2
  · push Not at h1
    cases h
    exact ⟨h1.1, h1.2, h2, rfl⟩

/-- What START can do (R240, R241). -/
theorem execStart_next {s t : State} (h : execStart s = .next t) :
    (s.status = .busy ∧ t = s.raiseHostError .startBusy) ∨
    (s.status ≠ .busy ∧ maxLen < s.len.toNat ∧ t = s.raiseHostError .lenRange) ∨
    (s.status ≠ .busy ∧ s.len.toNat ≤ maxLen ∧ t = s.beginRun) := by
  unfold execStart at h
  split_ifs at h with h1 h2 <;> cases h
  · exact .inl ⟨h1, rfl⟩
  · exact .inr (.inl ⟨h1, h2, rfl⟩)
  · exact .inr (.inr ⟨h1, by omega, rfl⟩)

/-- What a host transaction can do to the state: nothing, a reply, a record, a cleared record, a new
length when not BUSY, or a new run when not BUSY (R230 to R246). -/
theorem exec_host_next {i : Instr} {s t : State} (hi : i.agent = .host) (h : exec i s = .next t) :
    (i = .nop ∧ t = s) ∨
    (∃ off data, i = .rd off data ∧ t = s.reply (regRead s off)) ∨
    (i = .clearErr ∧ t = s.clearHostError) ∨
    (i ≠ .clearErr ∧ ∃ c, c ≠ .noCause ∧ t = s.raiseHostError c) ∨
    (s.status ≠ .busy ∧ ((∃ v, i = .wrLenLo v) ∨ ∃ v, i = .wrLenHi v) ∧ ∃ L, t = s.setLen L) ∨
    (i = .start ∧ s.status ≠ .busy ∧ s.len.toNat ≤ maxLen ∧ t = s.beginRun) := by
  cases i <;> simp only [Instr.agent, reduceCtorEq] at hi
  case nop => simp_all [exec, execNop]
  case start =>
    rcases execStart_next h with ⟨-, ht⟩ | ⟨-, -, ht⟩ | ⟨h1, h2, ht⟩
    · exact .inr (.inr (.inr (.inl ⟨by simp, _, by decide, ht⟩)))
    · exact .inr (.inr (.inr (.inl ⟨by simp, _, by decide, ht⟩)))
    · exact .inr (.inr (.inr (.inr (.inr ⟨rfl, h1, h2, ht⟩))))
  case clearErr => simp_all [exec, execClearErr]
  case cmdIllegal w =>
    cases h
    exact .inr (.inr (.inr (.inl ⟨by simp, _, by decide, rfl⟩)))
  case rd off data =>
    cases h
    exact .inr (.inl ⟨off, data, rfl, rfl⟩)
  case wrLenLo v =>
    simp only [exec, execWrLenLo] at h
    split_ifs at h with h1 <;> cases h
    · exact .inr (.inr (.inr (.inl ⟨by simp, _, by decide, rfl⟩)))
    · exact .inr (.inr (.inr (.inr (.inl ⟨h1, .inl ⟨v, rfl⟩, _, rfl⟩))))
  case wrLenHi v =>
    simp only [exec, execWrLenHi] at h
    split_ifs at h with h1 <;> cases h
    · exact .inr (.inr (.inr (.inl ⟨by simp, _, by decide, rfl⟩)))
    · exact .inr (.inr (.inr (.inr (.inl ⟨h1, .inr ⟨v, rfl⟩, _, rfl⟩))))
  case wrRo off v =>
    cases h
    exact .inr (.inr (.inr (.inl ⟨by simp, _, by decide, rfl⟩)))

/-- A host transaction always answers a next state. -/
theorem exec_host_completes {i : Instr} (s : State) (hi : i.agent = .host) :
    ∃ t, exec i s = .next t := by
  cases i <;> simp only [Instr.agent, reduceCtorEq] at hi <;>
    simp only [exec, execNop, execClearErr, execCmdIllegal, execRd, execWrRo, execStart, execWrLenLo,
      execWrLenHi] <;> (try split_ifs) <;> exact ⟨_, rfl⟩

/-- An instruction that is no ROUND and no host transaction is LOAD, ACCUM or FINAL. -/
theorem engine_cases {i : Instr} (hi : i.agent = .engine) :
    i = .load ∨ i = .accum ∨ i = .final ∨ ∃ r j, i.roundOf = some (r, j) := by
  cases i <;> simp_all [Instr.agent, Instr.roundOf]

end Sys2Proof.Machine
end

