-- ==== Sys2Proof/Laws/PerInstr.lean ====
section
/-! SUPPORT. Facts about every instruction, one lemma per constructor (LAWS.json). -/

namespace Sys2Proof

/-- Whether a machine word is a host record. -/
def MachineWord.agent : MachineWord → Agent
  | .host _ => .host
  | .seq _ => .engine

namespace Laws.AgentOfWord

/-- The encoding of an instruction is a host record exactly when the host performs it (R78, R80). -/
def Statement (i : Instr) : Prop := (encode i).agent = i.agent

theorem nop : Statement .nop := rfl
theorem start : Statement .start := rfl
theorem clearErr : Statement .clearErr := rfl
theorem cmdIllegal (w : Word) : Statement (.cmdIllegal w) := rfl
theorem rd (off : BitVec 6) (data : Word) : Statement (.rd off data) := rfl
theorem wrLenLo (v : Word) : Statement (.wrLenLo v) := rfl
theorem wrLenHi (v : Word) : Statement (.wrLenHi v) := rfl
theorem wrRo (off : BitVec 6) (v : Word) : Statement (.wrRo off v) := rfl
theorem load : Statement .load := rfl
theorem round1_0 : Statement .round1_0 := rfl
theorem round1_1 : Statement .round1_1 := rfl
theorem round1_2 : Statement .round1_2 := rfl
theorem round1_3 : Statement .round1_3 := rfl
theorem round1_4 : Statement .round1_4 := rfl
theorem round1_5 : Statement .round1_5 := rfl
theorem round1_6 : Statement .round1_6 := rfl
theorem round1_7 : Statement .round1_7 := rfl
theorem round1_8 : Statement .round1_8 := rfl
theorem round1_9 : Statement .round1_9 := rfl
theorem round1_10 : Statement .round1_10 := rfl
theorem round1_11 : Statement .round1_11 := rfl
theorem round1_12 : Statement .round1_12 := rfl
theorem round1_13 : Statement .round1_13 := rfl
theorem round1_14 : Statement .round1_14 := rfl
theorem round1_15 : Statement .round1_15 := rfl
theorem round2_0 : Statement .round2_0 := rfl
theorem round2_1 : Statement .round2_1 := rfl
theorem round2_2 : Statement .round2_2 := rfl
theorem round2_3 : Statement .round2_3 := rfl
theorem round2_4 : Statement .round2_4 := rfl
theorem round2_5 : Statement .round2_5 := rfl
theorem round2_6 : Statement .round2_6 := rfl
theorem round2_7 : Statement .round2_7 := rfl
theorem round2_8 : Statement .round2_8 := rfl
theorem round2_9 : Statement .round2_9 := rfl
theorem round2_10 : Statement .round2_10 := rfl
theorem round2_11 : Statement .round2_11 := rfl
theorem round2_12 : Statement .round2_12 := rfl
theorem round2_13 : Statement .round2_13 := rfl
theorem round2_14 : Statement .round2_14 := rfl
theorem round2_15 : Statement .round2_15 := rfl
theorem round3_0 : Statement .round3_0 := rfl
theorem round3_1 : Statement .round3_1 := rfl
theorem round3_2 : Statement .round3_2 := rfl
theorem round3_3 : Statement .round3_3 := rfl
theorem round3_4 : Statement .round3_4 := rfl
theorem round3_5 : Statement .round3_5 := rfl
theorem round3_6 : Statement .round3_6 := rfl
theorem round3_7 : Statement .round3_7 := rfl
theorem round3_8 : Statement .round3_8 := rfl
theorem round3_9 : Statement .round3_9 := rfl
theorem round3_10 : Statement .round3_10 := rfl
theorem round3_11 : Statement .round3_11 := rfl
theorem round3_12 : Statement .round3_12 := rfl
theorem round3_13 : Statement .round3_13 := rfl
theorem round3_14 : Statement .round3_14 := rfl
theorem round3_15 : Statement .round3_15 := rfl
theorem accum : Statement .accum := rfl
theorem final : Statement .final := rfl

end Laws.AgentOfWord

end Sys2Proof
end

