-- ==== Sys2Proof/Laws/Step.lean ====
section
/-! SUPPORT. What a step can do, said once: one equation or inversion per kind of event. -/

namespace Sys2Proof.Machine

/-- A step with an entry in the inbox takes it off and performs it. -/
theorem step_cons {s : State} {e : Event} {es : List Event} (h : s.inbox = e :: es) :
    step s = eventStep e (s.setInbox es) := by
  simp [step, h]

/-- A step with an empty inbox is the engine's. -/
theorem step_nil {s : State} (h : s.inbox = []) : step s = engineStep s := by
  simp [step, h]

theorem hostStep_held {s : State} {t : HostTxn} (h : errorRecordHeld s = true) :
    hostStep t s = exec (decodeHost t) s := by
  simp [hostStep, h]

theorem hostStep_next {s u : State} {t : HostTxn} (h : hostStep t s = .next u) :
    errorRecordHeld s = true ∧ exec (decodeHost t) s = .next u := by
  unfold hostStep at h
  split_ifs at h with h1
  exact ⟨h1, h⟩

theorem errorRecordHeld_of {s : State} (h : s.err = true ∨ s.errCause = .noCause) :
    errorRecordHeld s = true := by
  unfold errorRecordHeld
  rcases h with h | h <;> simp [h]

/-- A step with a host transaction next and a record that is ever held is exec of what it decodes to. -/
theorem step_host {s : State} {x : HostTxn} {es : List Event} (hi : s.inbox = .host x :: es)
    (h : s.err = true ∨ s.errCause = .noCause) : step s = exec (decodeHost x) (s.setInbox es) := by
  rw [step_cons hi]
  exact hostStep_held (errorRecordHeld_of (s := s.setInbox es) h)

/-- What the host finds in a STATUS word: the STATE code (R73). -/
@[simp] theorem statusState_statusWord (s : State) : statusState (statusWord s) = s.status.code := by
  unfold statusState statusWord
  apply BitVec.eq_of_getLsbD_eq
  intro i hi
  simp only [BitVec.getLsbD_extractLsb', BitVec.getLsbD_append]
  simp [hi]

/-- What the host finds in a STATUS word: ERR (R73). -/
@[simp] theorem statusErr_statusWord (s : State) : statusErr (statusWord s) = s.err := by
  unfold statusErr statusWord
  simp only [BitVec.getLsbD_append]
  simp

theorem engineStep_idle {s : State} (h : s.status ≠ .busy) : engineStep s = .next s := by
  simp [engineStep, h]

theorem engineStep_busy {s : State} {i : Instr} (h : s.status = .busy) (hd : decodeSeq s.seq = .ok i) :
    engineStep s = exec i s := by
  simp [engineStep, h, hd]

/-- What an engine step can do (R250). -/
theorem engineStep_next {s t : State} (h : engineStep s = .next t) :
    (s.status ≠ .busy ∧ t = s) ∨
    (s.status = .busy ∧ s.phase = 1 ∧ s.stepNo = 0 ∧ execLoad s = .next t) ∨
    (s.status = .busy ∧ s.phase = 3 ∧ s.stepNo = 0 ∧ execAccum s = .next t) ∨
    (s.status = .busy ∧ s.phase = 4 ∧ s.stepNo = 0 ∧ execFinal s = .next t) ∨
    (s.status = .busy ∧ s.phase = 2 ∧ s.stepNo.toNat < 48 ∧ ∃ r j, t = roundOp r j s) := by
  by_cases hb : s.status = .busy
  · cases hd : decodeSeq s.seq with
    | error e => cases e <;> simp [engineStep, hb, hd] at h
    | ok i =>
      rw [engineStep_busy hb hd] at h
      rcases decodeSeq_ok hd with ⟨rfl, hp, hs⟩ | ⟨rfl, hp, hs⟩ | ⟨rfl, hp, hs⟩ | ⟨hr, hp, hs⟩ <;>
        rw [seqPhase_seq] at hp <;> rw [seqStep_seq] at hs
      · exact .inr (.inl ⟨hb, hp, hs, h⟩)
      · exact .inr (.inr (.inl ⟨hb, hp, hs, h⟩))
      · exact .inr (.inr (.inr (.inl ⟨hb, hp, hs, h⟩)))
      · obtain ⟨⟨r, j⟩, hrj⟩ := Option.ne_none_iff_exists'.1 hr
        rw [exec_of_roundOf hrj] at h
        cases h
        exact .inr (.inr (.inr (.inr ⟨hb, hp, hs, r, j, rfl⟩)))
  · rw [engineStep_idle hb] at h
    cases h
    exact .inl ⟨hb, rfl⟩

/-- A poll's read is an RD of its offset, so it is host work like any other. -/
theorem decodeHost_pollRead (off : BitVec 6) : decodeHost (pollRead off) = .rd off 0 := rfl

/-- What a poll can do: one reply, and while the value does not match, an engine step and the poll
again (R85; log entry 3). -/
theorem pollStep_next {s t : State} {off : BitVec 6} {mask value : Word}
    (h : pollStep off mask value s = .next t) :
    (regRead s off &&& mask = value ∧ t = s.reply (regRead s off)) ∨
    (regRead s off &&& mask ≠ value ∧
      t = (s.setInbox (.engine :: .poll off mask value :: s.inbox)).reply (regRead s off)) := by
  unfold pollStep at h
  split_ifs at h with h1
  · obtain ⟨-, h⟩ := hostStep_next h
    rw [decodeHost_pollRead] at h
    cases h
    exact .inl ⟨h1, rfl⟩
  · obtain ⟨-, h⟩ := hostStep_next h
    rw [decodeHost_pollRead] at h
    cases h
    exact .inr ⟨h1, rfl⟩

/-- A decoded record is the host's. -/
theorem decodeHost_agent (t : HostTxn) : (decodeHost t).agent = .host := by
  unfold decodeHost decodeCommand
  split_ifs <;> rfl

/-- What an entry of the inbox can do: a host instruction (a poll's read among them, which may put steps
back), an engine step, a reset, or a new message memory (R251, R253). -/
theorem eventStep_next {e : Event} {s t : State} (h : eventStep e s = .next t) :
    (∃ i : Instr, i.agent = .host ∧ ∃ es, exec i (s.setInbox es) = .next t) ∨
    engineStep s = .next t ∨ (∃ l, e = .reset l ∧ t = resetStep s) ∨ ∃ m, t = s.setMsg m := by
  cases e with
  | host x => exact .inl ⟨_, decodeHost_agent x, s.inbox, (hostStep_next h).2⟩
  | engine => exact .inr (.inl h)
  | poll off mask value =>
    refine .inl ⟨.rd off 0, rfl, ?_⟩
    rcases pollStep_next h with ⟨-, rfl⟩ | ⟨-, rfl⟩
    · exact ⟨s.inbox, rfl⟩
    · exact ⟨.engine :: .poll off mask value :: s.inbox, rfl⟩
  | reset l =>
    cases h
    exact .inr (.inr (.inl ⟨l, rfl, rfl⟩))
  | bindMessage bytes =>
    simp only [eventStep, bindMessageStep] at h
    split_ifs at h
    cases h
    exact .inr (.inr (.inr ⟨_, rfl⟩))
  | writeMessage off b =>
    simp only [eventStep, writeMessageStep] at h
    split_ifs at h
    cases h
    exact .inr (.inr (.inr ⟨_, rfl⟩))

/-- The four ways STATE, BLOCK and LEN can move in a step: STATE kept, with LEN kept in BUSY (R233) and
BLOCK kept outside it (R34); an accepted START (R240); FINAL (R215); a reset (R301). -/
def StateBlockLenMove (s t : State) : Prop :=
  (t.status = s.status ∧ (s.status = .busy → t.len = s.len) ∧ (s.status ≠ .busy → t.block = s.block)) ∨
  (s.status ≠ .busy ∧ s.len.toNat ≤ maxLen ∧ t.status = .busy ∧ t.block = 0 ∧ t.len = s.len) ∨
  (s.status = .busy ∧ s.phase = 4 ∧ t.status = .done ∧ t.block = s.block ∧ t.len = s.len) ∨
  t.status = .idle

theorem exec_host_stateBlockLen {i : Instr} {s t : State} (hi : i.agent = .host)
    (h : exec i s = .next t) : StateBlockLenMove s t := by
  rcases exec_host_next hi h with ⟨-, rfl⟩ | ⟨_, _, -, rfl⟩ | ⟨-, rfl⟩ | ⟨-, c, -, rfl⟩ |
    ⟨hb, -, L, rfl⟩ | ⟨-, hb, hl, rfl⟩
  · exact .inl ⟨rfl, fun _ => rfl, fun _ => rfl⟩
  · exact .inl ⟨rfl, fun _ => rfl, fun _ => rfl⟩
  · exact .inl ⟨rfl, fun _ => rfl, fun _ => rfl⟩
  · rw [raiseHostError_eq]
    exact .inl ⟨rfl, fun _ => rfl, fun _ => rfl⟩
  · exact .inl ⟨rfl, fun h => absurd h hb, fun _ => rfl⟩
  · exact .inr (.inl ⟨hb, hl, rfl, rfl, rfl⟩)

theorem engineStep_stateBlockLen {s t : State} (h : engineStep s = .next t) : StateBlockLenMove s t := by
  rcases engineStep_next h with ⟨-, rfl⟩ | ⟨-, -, -, h⟩ | ⟨hb, -, -, h⟩ | ⟨hb, hp, -, h⟩ |
    ⟨hb, -, -, r, j, rfl⟩
  · exact .inl ⟨rfl, fun _ => rfl, fun _ => rfl⟩
  · obtain ⟨-, -, -, rfl⟩ := execLoad_next h
    exact .inl ⟨rfl, fun _ => rfl, fun _ => rfl⟩
  · cases h
    exact .inl ⟨rfl, fun _ => rfl, fun h => absurd hb h⟩
  · cases h
    exact .inr (.inr (.inl ⟨hb, hp, rfl, rfl, rfl⟩))
  · rw [roundOp_eq]
    exact .inl ⟨rfl, fun _ => rfl, fun h => absurd hb h⟩

/-- How STATE, BLOCK and LEN move in any step. -/
theorem step_stateBlockLen {s t : State} (h : step s = .next t) : StateBlockLenMove s t := by
  cases hi : s.inbox with
  | nil => exact engineStep_stateBlockLen (step_nil hi ▸ h)
  | cons e es =>
    rw [step_cons hi] at h
    rcases eventStep_next h with ⟨i, ha, fs, h⟩ | h | ⟨l, -, rfl⟩ | ⟨m, rfl⟩
    · exact exec_host_stateBlockLen (s := (s.setInbox es).setInbox fs) ha h
    · exact engineStep_stateBlockLen (s := s.setInbox es) h
    · exact .inr (.inr (.inr rfl))
    · exact .inl ⟨rfl, fun _ => rfl, fun _ => rfl⟩

/-- Runs compose. -/
theorem run_add (m n : Nat) {s t : State} (h : run m s = .next t) : run (m + n) s = run n t := by
  induction m generalizing s with
  | zero =>
    cases h
    simp
  | succ m ih =>
    rw [Nat.succ_add]
    cases hs : step s with
    | next u =>
      simp only [run, hs] at h ⊢
      exact ih h
    | fault r => simp [run, hs] at h
    | refused r => simp [run, hs] at h

end Sys2Proof.Machine
end

