-- ==== Sys2Proof/Tests/Slice0.lean ====
section
/-! SUPPORT. The model's own tests. Expected values are the spec's: opcode_table.json and the encodings of
30_encoding.md for the words, 95_test_vectors.md and the worked examples of the rules for the results.
The `witness_` theorems show that the hypotheses of the statements can be met together. -/

namespace Sys2Proof.Tests

open Sys2Proof Sys2Proof.Machine

/-! ## Ill-formed terms are refused (R72, R79) -/

theorem test_illformed_command_codes :
    (Instr.cmdIllegal 0x00000000).wellFormed = false ∧ (Instr.cmdIllegal 0x00000001).wellFormed = false ∧
    (Instr.cmdIllegal 0x00000002).wellFormed = false ∧ (Instr.cmdIllegal 0x00000003).wellFormed = true ∧
    (Instr.cmdIllegal 0x00000010).wellFormed = true ∧ (Instr.cmdIllegal 0x80000001).wellFormed = true := by
  decide

theorem test_illformed_read_only_offsets :
    (Instr.wrRo 0x00 7).wellFormed = false ∧ (Instr.wrRo 0x10 7).wellFormed = false ∧
    (Instr.wrRo 0x14 7).wellFormed = false ∧ (Instr.wrRo 0x11 7).wellFormed = true ∧
    (Instr.wrRo 0x3f 7).wellFormed = true := by
  decide

/-! ## Decoding of words written out from the encodings (R72, R78, R80) -/

/-- {RW, OFF, DATA} written out bit by bit. -/
theorem test_decode_host_rows :
    decode (.host 0b1_000000_00000000000000000000000000000000) = .ok .nop ∧
    decode (.host 0b1_000000_00000000000000000000000000000001) = .ok .start ∧
    decode (.host 0b1_000000_00000000000000000000000000000010) = .ok .clearErr ∧
    decode (.host 0b1_000000_00000000000000000000000000010001) = .ok (.cmdIllegal 0x11) ∧
    decode (.host 0b0_000100_00000000000000000000000000000000) = .ok (.rd 0x04 0) ∧
    decode (.host 0b1_010000_00000000000000000000000000000101) = .ok (.wrLenLo 5) ∧
    decode (.host 0b1_010100_00100000000000000000000000000000) = .ok (.wrLenHi 0x20000000) ∧
    decode (.host 0b1_010001_00000000000000000000000000000001) = .ok (.wrRo 0x11 1) := by
  decide

theorem test_decode_load_accum_final :
    decodeSeq 0b001_000000 = .ok .load ∧ decodeSeq 0b011_000000 = .ok .accum ∧
    decodeSeq 0b100_000000 = .ok .final := by
  decide

theorem test_decode_round1 :
    [0b010_000000, 0b010_000001, 0b010_000010, 0b010_000011, 0b010_000100, 0b010_000101,
      0b010_000110, 0b010_000111, 0b010_001000, 0b010_001001, 0b010_001010, 0b010_001011,
      0b010_001100, 0b010_001101, 0b010_001110, 0b010_001111].map decodeSeq =
    ([.ok .round1_0, .ok .round1_1, .ok .round1_2, .ok .round1_3, .ok .round1_4, .ok .round1_5,
      .ok .round1_6, .ok .round1_7, .ok .round1_8, .ok .round1_9, .ok .round1_10, .ok .round1_11,
      .ok .round1_12, .ok .round1_13, .ok .round1_14, .ok .round1_15] : List (Except Reject Instr)) := by
  decide

theorem test_decode_round2 :
    [0b010_010000, 0b010_010001, 0b010_010010, 0b010_010011, 0b010_010100, 0b010_010101,
      0b010_010110, 0b010_010111, 0b010_011000, 0b010_011001, 0b010_011010, 0b010_011011,
      0b010_011100, 0b010_011101, 0b010_011110, 0b010_011111].map decodeSeq =
    ([.ok .round2_0, .ok .round2_1, .ok .round2_2, .ok .round2_3, .ok .round2_4, .ok .round2_5,
      .ok .round2_6, .ok .round2_7, .ok .round2_8, .ok .round2_9, .ok .round2_10, .ok .round2_11,
      .ok .round2_12, .ok .round2_13, .ok .round2_14, .ok .round2_15] : List (Except Reject Instr)) := by
  decide

theorem test_decode_round3 :
    [0b010_100000, 0b010_100001, 0b010_100010, 0b010_100011, 0b010_100100, 0b010_100101,
      0b010_100110, 0b010_100111, 0b010_101000, 0b010_101001, 0b010_101010, 0b010_101011,
      0b010_101100, 0b010_101101, 0b010_101110, 0b010_101111].map decodeSeq =
    ([.ok .round3_0, .ok .round3_1, .ok .round3_2, .ok .round3_3, .ok .round3_4, .ok .round3_5,
      .ok .round3_6, .ok .round3_7, .ok .round3_8, .ok .round3_9, .ok .round3_10, .ok .round3_11,
      .ok .round3_12, .ok .round3_13, .ok .round3_14, .ok .round3_15] : List (Except Reject Instr)) := by
  decide

theorem test_decode_rejects_by_name :
    decodeSeq 0b000_000000 = .error .noMicroOp ∧
    decodeSeq 0b010_110000 = .error .unreachableSequencerWord ∧
    decodeSeq 0b001_000001 = .error .unreachableSequencerWord ∧
    decodeSeq 0b101_000000 = .error .unreachableSequencerWord := by
  decide

theorem test_decodeTableWord :
    decodeTableWord 16 0x096 = some .round2_6 ∧ decodeTableWord 40 0x4000000001 = some .start ∧
    decodeTableWord 16 0x000 = none ∧ decodeTableWord 16 0x200 = none := by
  decide

/-! ## Pure functions (95_test_vectors.md sections 2.1 to 2.6) -/

theorem test_encodeLength :
    encodeLength 0x0102030405060708 = [0x08, 0x07, 0x06, 0x05, 0x04, 0x03, 0x02, 0x01] := by decide

theorem test_padZeros_blockCount :
    [0, 3, 55, 56, 63, 64, 119, 120].map padZeros = [55, 52, 0, 63, 56, 55, 0, 63] ∧
    [0, 3, 55, 56, 63, 64, 119, 120].map blockCount = [1, 1, 1, 2, 2, 2, 2, 3] ∧
    blockCount (2 ^ 61 - 1) = 2 ^ 55 + 1 := by decide

theorem test_nonlinear :
    F 0xf0f0f0f0 0xff00ff00 0x0f0f0f0f = 0xff0fff0f ∧ G 0xffffffff 0x12345678 0x9abcdef0 = 0x9abcdef8 ∧
    H 0xffffffff 0x12345678 0x9abcdef0 = 0x77777777 := by decide

theorem test_add32_rotl32 :
    add32 0xffffffff 0x00000001 = 0 ∧ add32 0x67452301 0x798ab330 = 0xe0cfd631 ∧
    rotl32 0x12345678 19 = 0xb3c091a2 ∧ rotl32 0x80000001 3 = 0x0000000c := by decide

theorem test_step_functions :
    T1 0x67452301 0xefcdab89 0x98badcfe 0x10325476 0x00000080 3 = 0x000003f8 ∧
    T2 0xffffffff 0xffffffff 0xffffffff 0xffffffff 0xffffffff 13 = 0x4f32cb50 ∧
    T3 1 5 5 5 0 9 = 0xb3d74edd := by decide

theorem test_wordOfBytes : wordOfBytes 0x61 0x62 0x63 0x80 = 0x80636261 := by decide

/-! ## One step of each instruction -/

/-- A field of the next state, if there is one. -/
def field {α : Type} (f : State → α) (o : Host.Outcome State Fault Refusal) : Option α :=
  match o with
  | .next t => some (f t)
  | .fault _ => none
  | .refused _ => none

/-- "abc" in memory, LEN = 3 (95 section 3, P2). -/
def abcIdle : State := { State.reset with msg := Memory.ofBytes [0x61, 0x62, 0x63], len := 3 }

/-- The state after an accepted START on "abc". -/
def abcBusy : State := { abcIdle with acc := iv, status := .busy, phase := 1 }

/-- The empty message's block with the given working copy and STEP (95 section 2.7a). -/
def emptyRound (q : Quad) (st : BitVec 6) : State :=
  { State.reset with
    acc := iv, work := q, status := .busy, phase := 2, stepNo := st
    X := #v[0x80, 0, 0, 0, 0, 0, 0, 0, 0, 0, 0, 0, 0, 0, 0, 0] }

theorem test_nop_busy : field (statusWord ·) (exec .nop abcBusy) = some 0x00000001 := by decide

theorem test_start : field (fun t => (statusWord t, seqWord t, t.acc)) (exec .start abcIdle) =
    some (0x00000001, 0x00000040, iv) := by decide

theorem test_start_busy_and_range :
    field statusWord (exec .start abcBusy) = some 0x00000025 ∧
    field statusWord (exec .start { abcIdle with len := 0x2000000000000000 }) = some 0x00000034 ∧
    field statusWord (exec .start { abcIdle with len := 0x1fffffffffffffff }) = some 0x00000001 := by decide

theorem test_clearErr :
    field statusWord (exec .clearErr { abcBusy with err := true, errCause := .startBusy }) =
      some 0x00000001 := by decide

theorem test_cmdIllegal :
    field statusWord (exec (.cmdIllegal 0x11) abcBusy) = some 0x00000015 ∧
    field statusWord (exec (.cmdIllegal 3) { abcIdle with err := true, errCause := .badAccess }) =
      some 0x00000054 := by decide

theorem test_rd_digest_gated :
    field State.replies (exec (.rd 0x20 0) { abcIdle with acc := iv, status := .done }) =
      some [0x67452301] ∧
    field State.replies (exec (.rd 0x20 0) abcBusy) = some [0] := by decide

theorem test_rd_halves :
    field State.replies (exec (.rd 0x14 0) { abcIdle with len := 0x1122334455667788 }) =
      some [0x11223344] ∧
    field State.replies (exec (.rd 0x18 9) { abcIdle with block := 0x1122334455667788 }) =
      some [0x55667788] := by decide

theorem test_wrLenLo :
    field (fun t => (t.len, statusWord t)) (exec (.wrLenLo 5) abcBusy) = some (3, 0x00000045) ∧
    field State.len (exec (.wrLenLo 5) { abcIdle with len := 0x1122334455667788 }) =
      some 0x1122334400000005 := by decide

theorem test_wrLenHi :
    field State.len (exec (.wrLenHi 0x20000000) { abcIdle with len := 0x1122334455667788 }) =
      some 0x2000000055667788 := by decide

theorem test_wrRo :
    field (fun t => (statusWord t, t.len)) (exec (.wrRo 0x20 0x12345678) abcIdle) =
      some (0x00000054, 3) := by decide

theorem test_load_abc :
    field (fun t => (t.X.get 0, t.X.get 1, t.X.get 14, t.X.get 15, t.work, t.seq)) (exec .load abcBusy) =
      some (0x80636261, 0, 0x00000018, 0, iv, 0x080) := by decide

theorem test_load_absent_byte_faults :
    exec .load { abcBusy with len := 4 } = .fault .messageByteAbsent := by rfl

theorem test_round1_0 :
    field (fun t => (t.work.a, t.seq)) (exec .round1_0 (emptyRound iv 0)) = some (0x000003f8, 0x081) := by
  decide

theorem test_round1_1 :
    field (fun t => t.work) (exec .round1_1 (emptyRound { iv with a := 0x000003f8 } 1)) =
      some { a := 0x000003f8, b := 0xefcdab89, c := 0x98badcfe, d := 0x769a0254 } := by
  decide

theorem test_round2_0 :
    field (fun t => (t.work.a, t.seq))
      (exec .round2_0 (emptyRound ⟨0xaddcb303, 0x3665f296, 0x8ee8f245, 0xa483a664⟩ 16)) =
      some (0x7a08fb05, 0x091) := by
  decide

theorem test_round3_15 :
    field (fun t => (t.work.b, t.seq))
      (exec .round3_15 (emptyRound ⟨0x798ab330, 0x187317b3, 0x3e9e5fb9, 0xb0576c6a⟩ 47)) =
      some (0x421bbf48, 0x0c0) := by
  decide

theorem test_accum :
    field (fun t => (t.acc, t.seq, t.block))
      (exec .accum { emptyRound ⟨0x798ab330, 0x421bbf48, 0x3e9e5fb9, 0xb0576c6a⟩ 0 with phase := 3 }) =
      some (⟨0xe0cfd631, 0x31e96ad1, 0xd7593cb7, 0xc089c0e0⟩, 0x100, 1) := by
  decide

theorem test_accum_next_block :
    field State.seq (exec .accum { abcBusy with phase := 3, len := 56 }) = some 0x040 := by decide

theorem test_final :
    field (fun t => (statusWord t, seqWord t)) (exec .final { abcBusy with phase := 4, block := 1 }) =
      some (0x00000002, 0) := by decide

/-! ## Steps -/

theorem test_step_transaction_from_bits :
    field (fun t => (statusWord t, t.inbox)) (step (State.reset.withFetchWord 40 0x4000000003)) =
      some (0x00000014, []) := by decide

theorem test_step_micro_operation_from_bits :
    field (fun t => (t.X.get 0, t.seq)) (step (State.reset.withFetchWord 16 0x040)) =
      some (0x00000080, 0x080) := by decide

theorem test_step_never_held_faults :
    step { abcBusy with phase := 5 } = .fault .unreachableSequencerWord ∧
    step { abcBusy with phase := 0 } = .fault .busyWithoutMicroOp := ⟨rfl, rfl⟩

theorem test_step_reset :
    field (fun t => (statusWord t, seqWord t, t.len, t.msg))
      (step { abcBusy with phase := 2, stepNo := 9, inbox := [.reset none] }) =
      some (0, 0, 0, [(0, 0x61), (1, 0x62), (2, 0x63)]) := by decide

theorem test_step_poll_waits :
    field (fun t => (t.replies, t.inbox)) (step { abcBusy with inbox := [.poll 0x04 3 2] }) =
      some ([1], [.engine, .poll 0x04 3 2]) := by decide

theorem test_memory_write_canonical :
    Memory.write (Memory.write [(5, 0x11)] 3 0x22) 5 0x33 = [(3, 0x22), (5, 0x33)] ∧
    Memory.wf [(3, 0x22), (5, 0x33)] = true ∧ Memory.wf [(5, 0x33), (3, 0x22)] = false ∧
    Memory.wf State.reset.msg = true := by decide

/-! ## Witnesses: the hypotheses of the statements can be met -/

/-- `abcBusy` after a run of "abc". -/
def abcDone : State := { abcIdle with status := .done, block := 1, acc := iv }

theorem abcIdle_inv : Inv abcIdle := by constructor <;> decide
theorem abcBusy_inv : Inv abcBusy := by constructor <;> decide
theorem abcDone_inv : Inv abcDone := by constructor <;> decide

theorem abc_holds : MessageHolds abcIdle [0x61, 0x62, 0x63] := by constructor <;> decide
theorem abcBusy_holds : MessageHolds abcBusy [0x61, 0x62, 0x63] := by constructor <;> decide

/-- DecodeOfEncode, at both restricted rows. -/
theorem witness_wellFormed :
    (Instr.cmdIllegal 0x00000003).wellFormed = true ∧ (Instr.wrRo 0x3f 0).wellFormed = true := by decide

/-- EncodeOfDecode, one word of each kind. -/
theorem witness_decode_ok :
    decode (.host 0x7fffffffff) = .ok (.wrRo 0x3f 0xffffffff) ∧ decode (.seq 0x0af) = .ok .round3_15 := by
  decide

/-- SequencerDecoding: each clause at a boundary of its range. -/
theorem witness_sequencer_clauses :
    (2#3 = 2 ∧ (47#6).toNat < 48) ∧ (2#3 = 2 ∧ 48 ≤ (48#6).toNat) ∧ 5 ≤ (5#3).toNat ∧
    (4#3 ≠ 2 ∧ 63#6 ≠ 0) := by decide

/-- StepRunsHostTransaction, and its never-held clause. -/
theorem witness_host_step :
    ({ abcIdle with inbox := [.host startTxn] } : State).inbox = .host startTxn :: [] ∧
    decode (.host startTxn.pack) = .ok .start ∧ abcIdle.errCause = .noCause ∧
    ({ abcIdle with errCause := .badAccess } : State).err = false ∧
    ({ abcIdle with errCause := .badAccess } : State).errCause ≠ .noCause := by decide

/-- StepRunsSelectedMicroOperation, both clauses. -/
theorem witness_engine_step :
    abcBusy.inbox = [] ∧ abcBusy.status = .busy ∧
    decode (.seq (abcBusy.phase ++ abcBusy.stepNo : BitVec (3 + 6))) = .ok .load ∧
    ({ abcIdle with inbox := [.engine] } : State).inbox = .engine :: [] ∧ abcIdle.status ≠ .busy := by
  decide

/-- PlacedWordIsRun, both agents. -/
theorem witness_placed :
    Instr.start.wellFormed = true ∧ Instr.start.agent = .host ∧ abcIdle.errCause = .noCause ∧
    Instr.final.wellFormed = true ∧ Instr.final.agent = .engine := by decide

/-- StartBeginsRun at LEN = MAX_LEN. -/
theorem witness_start_accepted :
    ({ abcIdle with len := 0x1fffffffffffffff } : State).status ≠ .busy ∧
    ({ abcIdle with len := 0x1fffffffffffffff } : State).len.toNat ≤ 2 ^ 61 - 1 := by decide

/-- StartRefusals, both clauses; LEN_RANGE at 2^61. -/
theorem witness_start_refused :
    abcBusy.status = .busy ∧ ({ abcIdle with len := 0x2000000000000000 } : State).status ≠ .busy ∧
    2 ^ 61 - 1 < ({ abcIdle with len := 0x2000000000000000 } : State).len.toNat := by decide

/-- IllegalCommandRecorded: each side of the condition alone. -/
theorem witness_illegal :
    ((3 : Word).extractLsb' 4 28 = 0 ∧ 3 ≤ ((3 : Word).extractLsb' 0 4).toNat) ∧
    ((0x10 : Word).extractLsb' 4 28 ≠ 0 ∧ ¬ 3 ≤ ((0x10 : Word).extractLsb' 0 4).toNat) := by decide

/-- IllegalCommandComesFirst, in BUSY. -/
theorem witness_illegal_first :
    ({ abcBusy with inbox := [.host { write := true, off := 0x00, data := 0x11 }] } : State).inbox =
      .host { write := true, off := 0x00, data := 0x11 } :: [] ∧
    (0x11 : Word) ≠ 0 ∧ (0x11 : Word) ≠ 1 ∧ (0x11 : Word) ≠ 2 ∧ abcBusy.errCause = .noCause := by decide

/-- LengthWrites, both clauses. -/
theorem witness_length : abcBusy.status = .busy ∧ abcDone.status ≠ .busy := by decide

/-- ReadOnlyWriteRecorded, next to each excluded offset. -/
theorem witness_read_only :
    ∀ off ∈ [0x01, 0x0f, 0x11, 0x13, 0x15, 0x3f], off ≠ 0x00#6 ∧ off ≠ 0x10#6 ∧ off ≠ 0x14#6 := by decide

/-- ReadReturnsRegister: the last clause at reserved, misaligned and CMD offsets. -/
theorem witness_read_other :
    ∀ off ∈ [0x00, 0x05, 0x0c, 0x30, 0x3c], off ∉ [0x04#6, 0x08, 0x10, 0x14, 0x18, 0x1C, 0x20, 0x24, 0x28, 0x2C] := by
  decide

/-- ReadsRepeat. -/
theorem witness_reads :
    exec (.rd 0x08 0) abcBusy = .next { abcBusy with replies := [0x40] } ∧
    exec (.rd 0x08 7) { abcBusy with replies := [0x40] } = .next { abcBusy with replies := [0x40, 0x40] } :=
  ⟨rfl, rfl⟩

/-- SetLenThenCheckedStart: SETLEN, the first read, and BUSY. -/
theorem witness_setLen :
    ({ abcIdle with inbox := (Pseudo.expand (.setLen 7)).map Stmt.event ++ [] } : State).status ≠ .busy ∧
    abcIdle.errCause = .noCause ∧
    ({ abcIdle with inbox := digestProgram [0x61] [] } : State).inbox = digestProgram [0x61] [] ∧
    abcBusy.status = .busy := by decide

/-- SetLenThenCheckedStart: the host's program in a state that is not BUSY, with a message in range. -/
theorem witness_boot :
    ({ abcDone with inbox := digestProgram [0x61] [statusWord abcDone] } : State).status ≠ .busy ∧
    abcDone.errCause = .noCause ∧
    ({ abcDone with inbox := digestProgram [0x61] [statusWord abcDone] } : State).inbox =
      digestProgram [0x61] [statusWord { abcDone with inbox := digestProgram [0x61] [statusWord abcDone] }] ∧
    [0x61#8].length ≤ 2 ^ 61 - 1 := by decide

/-- SetLenThenCheckedStart: a length that START refuses, one above MAX_LEN. -/
theorem witness_boot_refused :
    2 ^ 61 - 1 < (List.replicate (2 ^ 61) (0x61 : Byte)).length ∧
    (List.replicate (2 ^ 61) (0x61 : Byte)).length < 2 ^ 64 := by
  rw [List.length_replicate]
  decide

/-- R305, step 3: a START refused in DONE (95_test_vectors.md §2.10 layout, LEN_RANGE: ERR = 1, cause 3)
ends the host's program, and an ERR that was set before does not. -/
theorem test_boot_check :
    digestProgram [0x61] [0x00000002, 0x00000036] = [] ∧
    digestProgram [0x61] [0x00000054, 0x00000055] ≠ [] ∧
    digestProgram [0x61] [0x00000000, 0x00000025] = [] := by decide

/-- LoadParsesBlock. -/
theorem witness_load :
    MessageHolds abcBusy [0x61, 0x62, 0x63] ∧ [0x61#8, 0x62, 0x63].length ≤ 2 ^ 61 - 1 ∧
    abcBusy.block.toNat < blockCount [0x61#8, 0x62, 0x63].length := ⟨abcBusy_holds, by decide, by decide⟩

/-- The hypothesis of the ROUND statements only names the working copy. -/
theorem witness_rounds : abcBusy.work = Quad.zero := rfl

/-- OnlyTheseWriteEachField, NoInstructionWritesMessage, SequencerTransitions: a next state exists, for
each clause of the last. -/
theorem witness_next :
    (∃ t, exec .load abcBusy = .next t) ∧ (∃ t, exec .round1_0 (emptyRound iv 46) = .next t) ∧
    (∃ t, exec .round1_0 (emptyRound iv 47) = .next t) ∧ (∃ t, exec .accum abcBusy = .next t) ∧
    (∃ t, exec .accum { abcBusy with len := 56 } = .next t) ∧ (∃ t, exec .final abcBusy = .next t) ∧
    (∃ t, exec .nop abcBusy = .next t) :=
  ⟨⟨_, rfl⟩, ⟨_, rfl⟩, ⟨_, rfl⟩, ⟨_, rfl⟩, ⟨_, rfl⟩, ⟨_, rfl⟩, ⟨_, rfl⟩⟩

/-- MessageReadsStayInBlock: two different memories that agree below LEN in block 0. -/
theorem witness_two_memories :
    (∀ i, i < abcBusy.len.toNat → i / 64 = abcBusy.block.toNat →
      (abcBusy.msg.write 3 0xff).read i = abcBusy.msg.read i) ∧
    abcBusy.msg.write 3 0xff ≠ abcBusy.msg := by decide

/-- FirstCauseIsKept. -/
theorem witness_first_cause :
    Instr.start ≠ .clearErr ∧ ({ abcBusy with err := true, errCause := .badAccess } : State).err = true ∧
    ∃ t, exec .start { abcBusy with err := true, errCause := .badAccess } = .next t :=
  ⟨by decide, rfl, _, rfl⟩

/-- ErrorNeverAffectsComputation: two different states that agree on the computation. -/
theorem witness_same_computation :
    SameComputation abcBusy { abcBusy with err := true, errCause := .badAccess } := by constructor <;> rfl

/-- HostLeavesRunningComputation. -/
theorem witness_host_busy :
    Instr.start.agent = .host ∧ abcBusy.status = .busy ∧ ∃ t, exec .start abcBusy = .next t :=
  ⟨rfl, rfl, _, rfl⟩

/-- NoBranchOnData: two engine steps from states that differ in data. -/
theorem witness_no_branch :
    (∃ u, engineStep abcBusy = .next u) ∧ (∃ v, engineStep { abcBusy with acc := Quad.zero } = .next v) :=
  ⟨⟨_, rfl⟩, ⟨_, rfl⟩⟩

/-- NeverHeldWordFaults: each clause of NeverHeld at a boundary, a state outside it with a next step, and
BUSY. -/
theorem witness_never_held :
    NeverHeld 2 48 ∧ NeverHeld 5 0 ∧ NeverHeld 4 1 ∧ ¬ NeverHeld abcBusy.phase abcBusy.stepNo ∧
    (∃ t, step abcBusy = .next t) :=
  ⟨by unfold NeverHeld; decide, by unfold NeverHeld; decide, by unfold NeverHeld; decide,
    by unfold NeverHeld; decide, _, rfl⟩

/-- EngineStepNeverStops. -/
theorem witness_engine_total :
    Inv abcBusy ∧ ∀ i, i < abcBusy.len.toNat → (abcBusy.msg.read i).isSome = true :=
  ⟨abcBusy_inv, by decide⟩

/-- MessageFixedWhileBusy: BUSY, and the offsets on both sides of LEN. -/
theorem witness_message_fixed :
    abcBusy.status = .busy ∧ (2#61).toNat < abcBusy.len.toNat ∧ abcBusy.len.toNat ≤ (3#61).toNat := by decide

/-- LengthWriteInDoneMovesBlockCount: DONE after "abc", then LEN_LO <- 56. -/
theorem witness_done_length :
    abcDone.status = .done ∧ abcDone.block.toNat = blockCount abcDone.len.toNat ∧
    blockCount (abcDone.len.extractLsb' 32 32 ++ (56 : Word) : BitVec (32 + 32)).toNat ≠
      blockCount abcDone.len.toNat := by decide

/-- InstancesAreIndependent. -/
theorem witness_instances :
    1 < [abcIdle, abcBusy].length ∧ ∃ ts, instanceStep [abcIdle, abcBusy] 1 = .next ts :=
  ⟨by decide, _, rfl⟩

/-- ResetStepTakesResetState. -/
theorem witness_reset :
    ({ abcBusy with inbox := [.reset (some startTxn)] } : State).inbox = .reset (some startTxn) :: [] := rfl

/-- StepKeepsInvariant, with the length of the computation. -/
theorem witness_inv_step : Inv abcBusy ∧ ComputationOf 3 abcBusy ∧ ∃ t, step abcBusy = .next t :=
  ⟨abcBusy_inv, by constructor <;> decide, _, rfl⟩

/-- StepKeepsInvariant: FINAL reaches DONE, from a state that keeps the invariant. -/
theorem witness_inv_final :
    Inv { abcBusy with phase := 4, block := 1 } ∧ ComputationOf 3 { abcBusy with phase := 4, block := 1 } ∧
    ∃ t, step { abcBusy with phase := 4, block := 1 } = .next t ∧ t.status = .done := by
  refine ⟨?_, ?_, _, rfl, rfl⟩ <;> constructor <;> decide

/-- HiddenStateUnobservable: two different states no observation tells apart. -/
theorem witness_indistinguishable : Indistinguishable abcIdle { abcIdle with acc := iv, work := iv } := by
  constructor <;> decide

/-- WordAssemblyIsLittleEndian, AdditionAndRotation, LaneTables, PaddedStreamIsPaddedBuffer,
LengthFieldIsLastTwoWords: the ends of the ranges. -/
theorem witness_ranges :
    (15 ≤ 15 ∧ 3 < 4 ∧ 7 < 8) ∧ (31 ≤ 31 ∧ 31 < 32) ∧ 63 < paddedLength 3 ∧
    ([0x61#8, 0x62, 0x63].length ≤ 2 ^ 61 - 1 ∧ [0x61#8, 0x62, 0x63].length % 64 < 56) ∧
    56 ≤ (List.replicate 56 (0x61 : Byte)).length % 64 := by decide

/-- BlockRunIsCompress. -/
theorem witness_block_run :
    Inv abcBusy ∧ MessageHolds abcBusy [0x61, 0x62, 0x63] ∧ abcBusy.status = .busy ∧ abcBusy.phase = 1 ∧
    abcBusy.inbox = [] := ⟨abcBusy_inv, abcBusy_holds, rfl, rfl, rfl⟩

/-- A schedule for "abc": a refused START among the 50 engine steps. -/
def abcSchedule : List Event := .host startTxn :: List.replicate 50 .engine

/-- The state whose inbox is START, the schedule, and the last engine step. -/
def abcReady : State :=
  { abcIdle with inbox := .host startTxn :: (abcSchedule ++ .engine :: []) }

/-- EngineComputesDigest. -/
theorem witness_engine_digest :
    Inv abcReady ∧ abcReady.status ≠ .busy ∧ MessageHolds abcReady [0x61, 0x62, 0x63] ∧
    abcReady.inbox = .host startTxn :: (abcSchedule ++ .engine :: []) ∧
    (∀ e ∈ abcSchedule, e.plain = true) ∧
    abcSchedule.count .engine = 50 * blockCount [0x61#8, 0x62, 0x63].length := by
  refine ⟨?_, by decide, ?_, rfl, by decide, by decide⟩
  · constructor <;> decide
  · constructor <;> decide

/-- WaitForDoneEnds. -/
theorem witness_wait :
    Inv { abcIdle with inbox := [.host startTxn, .poll 0x04 0x00000003 0x00000002] } ∧
    MessageHolds { abcIdle with inbox := [.host startTxn, .poll 0x04 0x00000003 0x00000002] }
      [0x61, 0x62, 0x63] := by
  refine ⟨?_, ?_⟩ <;> constructor <;> decide

/-- WaitForDoneWithoutStartNeverEnds. -/
theorem witness_wait_idle :
    Inv { State.reset with inbox := [.poll 0x04 0x00000003 0x00000002] } ∧ State.reset.status = .idle := by
  refine ⟨?_, rfl⟩
  constructor <;> decide

/-- DigestBytesAndLanes. -/
theorem witness_lanes : abcDone.status = .done ∧ 3 < 4 := by decide

end Sys2Proof.Tests
end

section
/-! PROOFS. The state (10_state.md): writers of each register, ERR and the computation, the invariants of
R31, and the values the spec leaves open. -/

namespace Sys2Proof.Machine

/-! ## Who writes each register -/

/-- Settles O26, from what a host transaction and each micro-operation can do. -/
theorem onlyTheseWriteEachField : Obligations.OnlyTheseWriteEachField := by
  unfold Obligations.OnlyTheseWriteEachField
  intro i s t h
  cases ha : i.agent with
  | host =>
    rcases exec_host_next ha h with ⟨rfl, rfl⟩ | ⟨off, data, rfl, rfl⟩ | ⟨rfl, rfl⟩ |
      ⟨-, c, -, rfl⟩ | ⟨-, hi, L, rfl⟩ | ⟨rfl, -, -, rfl⟩
    · simp
    · simp
    · simp
    · simp
    · simp [hi]
    · simp
  | engine =>
    rcases engine_cases ha with rfl | rfl | rfl | ⟨r, j, hr⟩
    · obtain ⟨-, -, -, rfl⟩ := execLoad_next h
      simp
    · cases h
      simp
    · cases h
      simp
    · rw [exec_of_roundOf hr] at h
      cases h
      simp [hr]

/-! ## Relations between two states that instructions keep -/

@[simp] theorem outcomeRel_next {R : State → State → Prop} {s t : State} :
    OutcomeRel R (.next s) (.next t) ↔ R s t := Iff.rfl

/-- A relation that fixes what host transactions branch on and that their updates keep. -/
structure HostCongruence (R : State → State → Prop) : Prop where
  status : ∀ {s t}, R s t → s.status = t.status
  len : ∀ {s t}, R s t → s.len = t.len
  reply : ∀ {s t}, R s t → ∀ off, R (s.reply (regRead s off)) (t.reply (regRead t off))
  raise : ∀ {s t}, R s t → ∀ c, R (s.raiseHostError c) (t.raiseHostError c)
  clear : ∀ {s t}, R s t → R s.clearHostError t.clearHostError
  setLen : ∀ {s t}, R s t → ∀ L, R (s.setLen L) (t.setLen L)
  beginRun : ∀ {s t}, R s t → R s.beginRun t.beginRun

/-- A host transaction keeps such a relation. -/
theorem HostCongruence.exec {R : State → State → Prop} (hR : HostCongruence R) {i : Instr}
    (hi : i.agent = .host) {s t : State} (h : R s t) : OutcomeRel R (exec i s) (exec i t) := by
  cases i <;> simp only [Instr.agent, reduceCtorEq] at hi
  case nop => exact h
  case start =>
    simp only [Machine.exec, execStart, hR.status h, hR.len h]
    split_ifs
    · exact hR.raise h _
    · exact hR.raise h _
    · exact hR.beginRun h
  case clearErr => exact hR.clear h
  case cmdIllegal w => exact hR.raise h _
  case rd off data => exact hR.reply h off
  case wrLenLo v =>
    simp only [Machine.exec, execWrLenLo, hR.status h, hR.len h]
    split_ifs
    · exact hR.raise h _
    · exact hR.setLen h _
  case wrLenHi v =>
    simp only [Machine.exec, execWrLenHi, hR.status h, hR.len h]
    split_ifs
    · exact hR.raise h _
    · exact hR.setLen h _
  case wrRo off v => exact hR.raise h _

/-- LOAD stops alike and loads the same block in two states with the same LEN, BLOCK and message. -/
theorem outcomeRel_execLoad {R : State → State → Prop} {s t : State} (hlen : s.len = t.len)
    (hblock : s.block = t.block) (hmsg : s.msg = t.msg)
    (hload : ∀ X, R (s.loadBlock X) (t.loadBlock X)) :
    OutcomeRel R (execLoad s) (execLoad t) := by
  simp only [execLoad, hlen, hblock, hmsg]
  split_ifs
  · rfl
  · exact hload _
  · rfl

/-! ## ERR and the computation (R37) -/

theorem sameComputation_hostCongruence : HostCongruence SameComputation where
  status h := h.status
  len h := h.len
  reply h _ := ⟨h.acc, h.work, h.X, h.status, h.phase, h.stepNo, h.block, h.len, h.msg⟩
  raise h _ := by
    rw [raiseHostError_eq, raiseHostError_eq]
    exact ⟨h.acc, h.work, h.X, h.status, h.phase, h.stepNo, h.block, h.len, h.msg⟩
  clear h := ⟨h.acc, h.work, h.X, h.status, h.phase, h.stepNo, h.block, h.len, h.msg⟩
  setLen h _ := ⟨h.acc, h.work, h.X, h.status, h.phase, h.stepNo, h.block, rfl, h.msg⟩
  beginRun h := ⟨rfl, h.work, h.X, rfl, rfl, rfl, rfl, h.len, h.msg⟩

theorem SameComputation.loadBlock {s t : State} (h : SameComputation s t) (X : Vector Word 16) :
    SameComputation (s.loadBlock X) (t.loadBlock X) :=
  ⟨h.acc, h.acc, rfl, h.status, rfl, rfl, h.block, h.len, h.msg⟩

theorem SameComputation.roundOp {s t : State} (h : SameComputation s t) (r : Round) (j : Fin 16) :
    SameComputation (roundOp r j s) (roundOp r j t) := by
  constructor <;>
    simp [roundOp_phase, roundOp_stepNo, h.acc, h.work, h.X, h.status, h.phase, h.stepNo, h.block,
      h.len, h.msg]

theorem SameComputation.execAccum {s t : State} (h : SameComputation s t) :
    OutcomeRel SameComputation (execAccum s) (execAccum t) := by
  refine outcomeRel_next.2 ?_
  constructor <;> simp [h.acc, h.work, h.X, h.status, h.block, h.len, h.msg]

theorem SameComputation.execFinal {s t : State} (h : SameComputation s t) :
    OutcomeRel SameComputation (execFinal s) (execFinal t) :=
  outcomeRel_next.2 ⟨h.acc, h.work, h.X, rfl, rfl, rfl, h.block, h.len, h.msg⟩

/-- Settles O30: no instruction reads ERR, ERR_CAUSE, the inbox or the replies into the computation. -/
theorem errorNeverAffectsComputation : Obligations.ErrorNeverAffectsComputation := by
  unfold Obligations.ErrorNeverAffectsComputation
  intro i s t h
  cases ha : i.agent with
  | host => exact sameComputation_hostCongruence.exec ha h
  | engine =>
    rcases engine_cases ha with rfl | rfl | rfl | ⟨r, j, hr⟩
    · exact outcomeRel_execLoad h.len h.block h.msg h.loadBlock
    · exact h.execAccum
    · exact h.execFinal
    · rw [exec_of_roundOf hr, exec_of_roundOf hr]
      exact h.roundOp r j

/-! ## The values the spec leaves open (R24, R25, R27) -/

namespace Indistinguishable

variable {s t : State}

/-- A register read shows no difference: the digest window is open in DONE only (R36). -/
theorem regRead_eq (h : Indistinguishable s t) (off : BitVec 6) : regRead s off = regRead t off := by
  have hdigest : ∀ f : Quad → Word, digestView s (f s.acc) = digestView t (f t.acc) := by
    intro f
    unfold digestView
    rw [← h.status]
    split_ifs with hd
    · rw [h.acc (by simp [hd])]
    · rfl
  have hstatus : statusWord s = statusWord t := by
    simp only [statusWord, h.status, h.err, h.errCause]
  have hseq : seqWord s = seqWord t := by
    simp only [seqWord, State.seq, h.phase, h.stepNo]
  simp only [regRead, hstatus, hseq, h.len, h.block, hdigest Quad.a, hdigest Quad.b, hdigest Quad.c,
    hdigest Quad.d]

theorem setInbox (h : Indistinguishable s t) (es : List Event) :
    Indistinguishable (s.setInbox es) (t.setInbox es) :=
  { h with inbox := rfl }

theorem setMsg (h : Indistinguishable s t) (m : Memory) :
    Indistinguishable (s.setMsg m) (t.setMsg m) :=
  { h with msg := rfl }

theorem raiseHostError (h : Indistinguishable s t) (c : ErrCause) :
    Indistinguishable (s.raiseHostError c) (t.raiseHostError c) := by
  rw [raiseHostError_eq, raiseHostError_eq]
  exact { h with err := rfl, errCause := by simp only [withFirstCause, h.err, h.errCause] }

theorem hostCongruence : HostCongruence Indistinguishable where
  status h := h.status
  len h := h.len
  reply h off := { h with replies := by simp [h.regRead_eq off, h.replies] }
  raise h c := h.raiseHostError c
  clear h := { h with err := rfl, errCause := rfl }
  setLen h _ := { h with len := rfl }
  beginRun h :=
    { h with
      acc := fun _ => rfl, work := fun h1 => absurd h1 (by simp), X := fun h1 => absurd h1 (by simp)
      status := rfl, phase := rfl, stepNo := rfl, block := rfl }

/-- LOAD makes the working copy from A to D, which agree in BUSY (R125). -/
theorem loadBlock (h : Indistinguishable s t) (hb : s.status = .busy) (X : Vector Word 16) :
    Indistinguishable (s.loadBlock X) (t.loadBlock X) :=
  have hacc : s.acc = t.acc := h.acc (by simp [hb])
  { h with work := fun _ => hacc, X := fun _ => rfl, phase := rfl, stepNo := rfl }

/-- A ROUND that is due reads a working copy and a block that agree (R184). -/
theorem roundOp (h : Indistinguishable s t) (hp : s.phase = 2) (r : Round) (j : Fin 16) :
    Indistinguishable (roundOp r j s) (roundOp r j t) := by
  rw [roundOp_eq, roundOp_eq]
  have hX : s.X = t.X := h.X hp
  have hwork : roundWork r j s.X s.work = roundWork r j t.X t.work := by
    rw [hX, h.work (.inl hp)]
  exact { h with
    work := fun _ => hwork
    X := fun _ => hX
    phase := by simp only [afterRound, h.phase, h.stepNo]
    stepNo := by simp only [afterRound, h.stepNo] }

/-- ACCUM adds a working copy that agrees to A to D, which agree in BUSY (R210). -/
theorem execAccum (h : Indistinguishable s t) (hb : s.status = .busy) (hp : s.phase = 3) :
    OutcomeRel Indistinguishable (execAccum s) (execAccum t) := by
  have hacc : s.acc = t.acc := h.acc (by simp [hb])
  have hwork : s.work = t.work := h.work (.inr hp)
  refine outcomeRel_next.2 { h with
    acc := fun _ => by simp only [hacc, hwork]
    work := fun _ => hwork
    X := fun h2 => ?_
    phase := by simp only [h.block, h.len]
    stepNo := rfl
    block := by simp only [h.block] }
  dsimp only at h2
  split_ifs at h2 <;> exact absurd h2 (by decide)

theorem execFinal (h : Indistinguishable s t) (hb : s.status = .busy) :
    OutcomeRel Indistinguishable (execFinal s) (execFinal t) :=
  outcomeRel_next.2 { h with
    acc := fun _ => h.acc (by simp [hb])
    work := fun h1 => absurd h1 (by simp)
    X := fun h1 => absurd h1 (by simp)
    status := rfl, phase := rfl, stepNo := rfl }

/-- A micro-operation that is due uses only registers that agree. -/
theorem engineStep (h : Indistinguishable s t) :
    OutcomeRel Indistinguishable (engineStep s) (engineStep t) := by
  by_cases hb : s.status = .busy
  · have hbt : t.status = .busy := h.status ▸ hb
    have hseq : t.seq = s.seq := by simp only [State.seq, h.phase, h.stepNo]
    cases hd : decodeSeq s.seq with
    | error e => cases e <;> simp [Machine.engineStep, hb, hbt, hseq, hd, OutcomeRel]
    | ok i =>
      rw [engineStep_busy hb hd, engineStep_busy hbt (hseq ▸ hd)]
      rcases decodeSeq_ok hd with ⟨rfl, -, -⟩ | ⟨rfl, hp, -⟩ | ⟨rfl, -, -⟩ | ⟨hr, hp, -⟩
      · exact outcomeRel_execLoad h.len h.block h.msg (h.loadBlock hb)
      · exact h.execAccum hb (seqPhase_seq s ▸ hp)
      · exact h.execFinal hb
      · obtain ⟨⟨r, j⟩, hrj⟩ := Option.ne_none_iff_exists'.1 hr
        rw [exec_of_roundOf hrj, exec_of_roundOf hrj]
        exact h.roundOp (seqPhase_seq s ▸ hp) r j
  · rw [engineStep_idle hb, engineStep_idle (h.status ▸ hb)]
    exact h

theorem hostStep (h : Indistinguishable s t) (x : HostTxn) :
    OutcomeRel Indistinguishable (hostStep x s) (hostStep x t) := by
  have hheld : errorRecordHeld s = errorRecordHeld t := by
    simp only [errorRecordHeld, h.err, h.errCause]
  simp only [Machine.hostStep, hheld]
  split_ifs
  · exact hostCongruence.exec (decodeHost_agent x) h
  · rfl

theorem pollStep (h : Indistinguishable s t) (off : BitVec 6) (mask value : Word) :
    OutcomeRel Indistinguishable (pollStep off mask value s) (pollStep off mask value t) := by
  simp only [Machine.pollStep, h.regRead_eq off, h.inbox]
  split_ifs
  · exact h.hostStep _
  · exact (h.setInbox _).hostStep _

theorem eventStep (h : Indistinguishable s t) (e : Event) :
    OutcomeRel Indistinguishable (eventStep e s) (eventStep e t) := by
  cases e with
  | host x => exact h.hostStep x
  | engine => exact h.engineStep
  | poll off mask value => exact h.pollStep off mask value
  | reset lost =>
    simp only [Machine.eventStep, resetStep, h.msg, h.inbox, h.replies, outcomeRel_next]
    constructor <;> simp
  | bindMessage bytes =>
    simp only [Machine.eventStep, bindMessageStep, h.status]
    split_ifs
    · rfl
    · exact h.setMsg _
  | writeMessage off b =>
    simp only [Machine.eventStep, writeMessageStep, h.status, h.len, h.msg]
    split_ifs
    · rfl
    · exact h.setMsg _

end Indistinguishable

/-- Settles O43: every step keeps the relation, since each register is read only where it agrees. -/
theorem hiddenStateUnobservable : Obligations.HiddenStateUnobservable := by
  unfold Obligations.HiddenStateUnobservable
  intro s t h
  cases hi : s.inbox with
  | nil =>
    rw [step_nil hi, step_nil (h.inbox ▸ hi)]
    exact h.engineStep
  | cons e es =>
    rw [step_cons hi, step_cons (h.inbox ▸ hi)]
    exact (h.setInbox es).eventStep e

/-! ## The invariants of R31 -/

theorem inv_reset : Inv State.reset := by constructor <;> decide

/-- Settles O41. No computation has been started at reset, so its length is free. -/
theorem resetKeepsInvariant : Obligations.ResetKeepsInvariant := by
  refine ⟨inv_reset, fun L => ⟨?_, ?_, ?_⟩⟩
  · intro hb
    cases hb
  · intro hd
    cases hd
  · intro hi
    exact absurd rfl hi

namespace Inv

variable {s t : State}

/-- Outside BUSY no micro-operation is pending (R31 (i), (ii)). -/
theorem phase_eq_zero (h : Inv s) (hb : s.status ≠ .busy) : s.phase = 0 := by
  have hle := h.phaseHeld
  have hbusy := mt h.busyIff.2 hb
  apply BitVec.eq_of_toNat_eq
  simp only [BitVec.ofNat_eq_ofNat, BitVec.toNat_ofNat]
  omega

/-- An update of anything but the sequencer keeps the invariant when it keeps the error record and the
message memory in order, and LEN while BUSY. -/
theorem of_sequencer_kept (h : Inv s) (hstatus : t.status = s.status) (hphase : t.phase = s.phase)
    (hstep : t.stepNo = s.stepNo) (hblock : t.block = s.block)
    (hlen : s.status = .busy → t.len = s.len)
    (hrecord : t.err = true ↔ t.errCause ≠ .noCause) (hmem : t.msg.wf = true) : Inv t where
  busyIff := by rw [hstatus, hphase]; exact h.busyIff
  phaseHeld := by rw [hphase]; exact h.phaseHeld
  stepHeld := by rw [hstep]; exact h.stepHeld
  stepZero := by rw [hphase, hstep]; exact h.stepZero
  blockBelow hb := by
    rw [hstatus] at hb
    rw [hphase, hblock, hlen hb]
    exact h.blockBelow hb
  blockLast hb := by
    rw [hstatus] at hb
    rw [hphase, hblock, hlen hb]
    exact h.blockLast hb
  lenInRange hb := by
    rw [hstatus] at hb
    rw [hlen hb]
    exact h.lenInRange hb
  record := hrecord
  memory := hmem

theorem setInbox (h : Inv s) (es : List Event) : Inv (s.setInbox es) :=
  h.of_sequencer_kept rfl rfl rfl rfl (fun _ => rfl) h.record h.memory

theorem setMsg (h : Inv s) {m : Memory} (hm : m.wf = true) : Inv (s.setMsg m) :=
  h.of_sequencer_kept rfl rfl rfl rfl (fun _ => rfl) h.record hm

theorem reply (h : Inv s) (v : Word) : Inv (s.reply v) :=
  h.of_sequencer_kept rfl rfl rfl rfl (fun _ => rfl) h.record h.memory

theorem clearHostError (h : Inv s) : Inv s.clearHostError :=
  h.of_sequencer_kept rfl rfl rfl rfl (fun _ => rfl) (by simp) h.memory

theorem setLen (h : Inv s) (hb : s.status ≠ .busy) (L : BitVec 64) : Inv (s.setLen L) :=
  h.of_sequencer_kept rfl rfl rfl rfl (fun hb' => absurd hb' hb) h.record h.memory

/-- A recorded cause is never NONE: the first one was not (R38, R272). -/
theorem raiseHostError (h : Inv s) {c : ErrCause} (hc : c ≠ .noCause) : Inv (s.raiseHostError c) := by
  have hcause : (if s.err then s.errCause else c) ≠ .noCause := by
    split_ifs with he
    · exact h.record.1 he
    · exact hc
  exact h.of_sequencer_kept (by simp) (by simp) (by simp) (by simp) (by simp) (by simpa using hcause)
    (by simpa using h.memory)

theorem resetStep (h : Inv s) : Inv (resetStep s) :=
  inv_reset.of_sequencer_kept rfl rfl rfl rfl (fun _ => rfl) inv_reset.record h.memory

/-- An accepted START: BLOCK = 0 is below N(LEN), which is positive. -/
theorem beginRun (h : Inv s) (hl : s.len.toNat ≤ maxLen) : Inv s.beginRun where
  busyIff := by simp
  phaseHeld := by simp
  stepHeld := by simp
  stepZero _ := rfl
  blockBelow _ _ := by simpa using blockCount_pos s.len.toNat
  blockLast _ hp := absurd hp (by simp)
  lenInRange _ := hl
  record := h.record
  memory := h.memory

theorem loadBlock (h : Inv s) (hb : s.status = .busy) (hp : s.phase = 1) (X : Vector Word 16) :
    Inv (s.loadBlock X) where
  busyIff := by simp [hb]
  phaseHeld := by simp
  stepHeld := by simp
  stepZero _ := rfl
  blockBelow _ _ := h.blockBelow hb (by simp [hp])
  blockLast _ hp' := absurd hp' (by simp)
  lenInRange := h.lenInRange
  record := h.record
  memory := h.memory

/-- A ROUND goes on to the next step below 48, or to ACCUM (R184). -/
theorem roundOp (h : Inv s) (hb : s.status = .busy) (hp : s.phase = 2) (r : Round) (j : Fin 16) :
    Inv (roundOp r j s) := by
  have hblock := h.blockBelow hb (by simp [hp])
  have hphase : (Machine.roundOp r j s).phase = 2 ∧ s.stepNo.toNat < 47 ∧
        (Machine.roundOp r j s).stepNo = s.stepNo + 1 ∨
      (Machine.roundOp r j s).phase = 3 ∧ (Machine.roundOp r j s).stepNo = 0 := by
    rw [roundOp_phase, roundOp_stepNo, hp]
    split_ifs with hlt
    · exact .inl ⟨rfl, hlt, rfl⟩
    · exact .inr ⟨rfl, rfl⟩
  rcases hphase with ⟨hph, hlt, hst⟩ | ⟨hph, hst⟩
  · constructor <;> simp [hph, hst, hb, hblock, h.record, h.memory]
    · bv_omega
    · exact h.lenInRange hb
  · constructor <;> simp [hph, hst, hb, hblock, h.record, h.memory]
    exact h.lenInRange hb

/-- ACCUM moves BLOCK up by one without overflow, to LOAD below N(LEN) and to FINAL at N(LEN) (R210). -/
theorem execAccum (h : Inv s) (hb : s.status = .busy) (hp : s.phase = 3) (ht : execAccum s = .next t) :
    Inv t := by
  cases ht
  have hblock : s.block.toNat < blockCount s.len.toNat := h.blockBelow hb (by simp [hp])
  have hcount := blockCount_le (h.lenInRange hb)
  have hnext : (s.block + 1).toNat = s.block.toNat + 1 := by bv_omega
  refine ⟨?_, ?_, by simp, fun _ => rfl, fun _ hph => ?_, fun _ hph => ?_, h.lenInRange, h.record,
    h.memory⟩ <;> dsimp only at *
  · split_ifs <;> simp [hb]
  · split_ifs <;> simp
  · split_ifs at hph with hlt
    · rw [hnext]
      exact hlt
    · exact absurd rfl hph
  · split_ifs at hph with hlt
    · exact absurd hph (by decide)
    · omega

/-- FINAL leaves DONE with no micro-operation pending (R215). -/
theorem execFinal (h : Inv s) (ht : execFinal s = .next t) : Inv t := by
  cases ht
  exact ⟨by simp, by simp, by simp, fun _ => rfl, fun hb => by simp at hb, fun hb => by simp at hb,
    fun hb => by simp at hb, h.record, h.memory⟩

theorem exec_host (h : Inv s) {i : Instr} (hi : i.agent = .host) (ht : exec i s = .next t) : Inv t := by
  rcases exec_host_next hi ht with ⟨-, rfl⟩ | ⟨_, _, -, rfl⟩ | ⟨-, rfl⟩ | ⟨-, c, hc, rfl⟩ |
    ⟨hb, -, L, rfl⟩ | ⟨-, -, hl, rfl⟩
  · exact h
  · exact h.reply _
  · exact h.clearHostError
  · exact h.raiseHostError hc
  · exact h.setLen hb L
  · exact h.beginRun hl

theorem engineStep (h : Inv s) (ht : engineStep s = .next t) : Inv t := by
  rcases engineStep_next ht with ⟨-, rfl⟩ | ⟨hb, hp, -, ht⟩ | ⟨hb, hp, -, ht⟩ | ⟨-, -, -, ht⟩ |
    ⟨hb, hp, -, r, j, rfl⟩
  · exact h
  · obtain ⟨-, -, -, rfl⟩ := execLoad_next ht
    exact h.loadBlock hb hp _
  · exact h.execAccum hb hp ht
  · exact h.execFinal ht
  · exact h.roundOp hb hp r j

theorem eventStep (h : Inv s) {e : Event} (ht : eventStep e s = .next t) : Inv t := by
  cases e with
  | host x => exact h.exec_host (decodeHost_agent x) (hostStep_next ht).2
  | engine => exact h.engineStep ht
  | poll off mask value =>
    rcases pollStep_next ht with ⟨-, rfl⟩ | ⟨-, rfl⟩
    · exact h.reply _
    · exact (h.setInbox _).reply _
  | reset lost =>
    cases ht
    exact h.resetStep
  | bindMessage bytes =>
    simp only [Machine.eventStep, bindMessageStep] at ht
    split_ifs at ht
    cases ht
    exact h.setMsg (Memory.wf_ofBytes bytes)
  | writeMessage off b =>
    simp only [Machine.eventStep, writeMessageStep] at ht
    split_ifs at ht
    cases ht
    exact h.setMsg (Memory.wf_write h.memory _ b)

/-- Every step keeps the invariant of R31. -/
theorem step (h : Inv s) (ht : step s = .next t) : Inv t := by
  cases hi : s.inbox with
  | nil => exact h.engineStep (step_nil hi ▸ ht)
  | cons e es =>
    rw [step_cons hi] at ht
    exact (h.setInbox es).eventStep ht

end Inv

/-- R31 (v) and R34 of the length of the computation: kept by every move of STATE, BLOCK and LEN. -/
theorem ComputationOf.move {L : BitVec 64} {s t : State} (h : ComputationOf L s) (hinv : Inv s)
    (hmove : StateBlockLenMove s t) : ComputationOf (lengthAfter L s t) t := by
  unfold lengthAfter
  rcases hmove with ⟨hst, hlen, hblock⟩ | ⟨hb, hl, hst, -, hlen⟩ | ⟨hb, hp, hst, hblock, -⟩ | hst
  · rw [if_neg (by simp [hst])]
    refine ⟨fun hb => ?_, fun hd => ?_, fun hi => h.inRange (hst ▸ hi)⟩
    · rw [hst] at hb
      rw [hlen hb, h.lenKept hb]
    · rw [hst] at hd
      rw [hblock (by simp [hd]), h.blockDone hd]
  · rw [if_pos ⟨hb, hst⟩]
    exact ⟨fun _ => hlen, fun hd => by simp [hst] at hd, fun _ => hl⟩
  · rw [if_neg (by simp [hst])]
    refine ⟨fun hb' => by simp [hst] at hb', fun _ => ?_, fun _ => h.inRange (by simp [hb])⟩
    rw [hblock, hinv.blockLast hb hp, h.lenKept hb]
  · exact ⟨fun hb => by simp [hst] at hb, fun hd => by simp [hst] at hd, fun hi => absurd hst hi⟩

/-- R31 (v) as written, of LEN: reached by FINAL, and kept in DONE unless LEN changes (R233). -/
theorem blockCount_done_of_move {s t : State} (hinv : Inv s) (hmove : StateBlockLenMove s t)
    (hs : s.status = .done → s.block.toNat = blockCount s.len.toNat) (hd : t.status = .done) :
    t.block.toNat = blockCount t.len.toNat ∨ (s.status = .done ∧ t.len ≠ s.len) := by
  rcases hmove with ⟨hst, -, hblock⟩ | ⟨-, -, hst, -, -⟩ | ⟨hb, hp, -, hblock, hlen⟩ | hst
  · rw [hst] at hd
    by_cases hlen : t.len = s.len
    · left
      rw [hblock (by simp [hd]), hlen, hs hd]
    · exact .inr ⟨hd, hlen⟩
  · simp [hst] at hd
  · left
    rw [hblock, hlen, hinv.blockLast hb hp]
  · simp [hst] at hd

/-- Settles O42: the invariant operation by operation, and R31 (v) from how STATE, BLOCK and LEN move. -/
theorem stepKeepsInvariant : Obligations.StepKeepsInvariant := by
  unfold Obligations.StepKeepsInvariant
  intro s t hinv ht
  have hmove := step_stateBlockLen ht
  exact ⟨hinv.step ht, fun L hL => hL.move hinv hmove, blockCount_done_of_move hinv hmove⟩

end Sys2Proof.Machine
end

section
/-! PROOFS. The message memory (20_memory.md): who writes it, which offsets of it LOAD reads, and what the
host may not do to it while BUSY. -/

namespace Sys2Proof.Machine

/-! ## No instruction writes it (R50) -/

/-- No instruction changes the message memory, host transaction or micro-operation. -/
theorem exec_msg {i : Instr} {s t : State} (h : exec i s = .next t) : t.msg = s.msg := by
  cases ha : i.agent with
  | host =>
    rcases exec_host_next ha h with ⟨-, rfl⟩ | ⟨_, _, -, rfl⟩ | ⟨-, rfl⟩ | ⟨-, c, -, rfl⟩ |
      ⟨-, -, L, rfl⟩ | ⟨-, -, -, rfl⟩
    · rfl
    · rfl
    · rfl
    · exact s.raiseHostError_msg c
    · rfl
    · rfl
  | engine =>
    rcases engine_cases ha with rfl | rfl | rfl | ⟨r, j, hr⟩
    · obtain ⟨-, -, -, rfl⟩ := execLoad_next h
      rfl
    · cases h
      rfl
    · cases h
      rfl
    · rw [exec_of_roundOf hr] at h
      cases h
      exact roundOp_msg s r j

/-- Settles O27: the memory itself is the same, so every offset of it reads the same. -/
theorem noInstructionWritesMessage : Obligations.NoInstructionWritesMessage := by
  unfold Obligations.NoInstructionWritesMessage
  intro i s t a h
  rw [exec_msg h]

/-! ## Only LOAD reads it, and only below LEN in its block (R51) -/

/-- Byte i of the padded stream reads the message at offset i at most, and only below L (R106). -/
theorem paddedByte_congr {M M' : Nat → Byte} {L i : Nat} (h : i < L → M i = M' i) :
    paddedByte M L i = paddedByte M' L i := by
  unfold paddedByte
  split_ifs with hi
  · exact h hi
  all_goals rfl

/-- A word of block n reads the message at offsets below L in block n at most (R51, R124). -/
theorem xword_congr {M M' : Nat → Byte} {L n j : Nat} (hj : j < 16)
    (h : ∀ i, i < L → i / 64 = n → M i = M' i) : xword M L n j = xword M' L n j := by
  have hbyte : ∀ i, i / 64 = n → paddedByte M L i = paddedByte M' L i :=
    fun i hn => paddedByte_congr fun hi => h i hi hn
  unfold xword
  rw [hbyte _ (by omega), hbyte _ (by omega), hbyte _ (by omega), hbyte _ (by omega)]

/-- Whether block n has all its message bytes rests on offsets below L in block n only (R51). -/
theorem blockPresent_congr {m m' : Memory} {L n : Nat}
    (h : ∀ i, i < L → i / 64 = n → m.read i = m'.read i) :
    blockPresent m L n = blockPresent m' L n := by
  rw [Bool.eq_iff_iff, blockPresent_iff, blockPresent_iff]
  exact forall_congr' fun i => forall₂_congr fun hi hn => by rw [h i hi hn]

/-- LOAD from a memory that agrees with the state's own below LEN in block BLOCK. -/
theorem execLoad_setMsg {s : State} {m : Memory}
    (h : ∀ i, i < s.len.toNat → i / 64 = s.block.toNat → m.read i = s.msg.read i) :
    OutcomeRel (fun u v => v = u.setMsg m) (execLoad s) (execLoad (s.setMsg m)) := by
  have hpresent : blockPresent m s.len.toNat s.block.toNat =
      blockPresent s.msg s.len.toNat s.block.toNat := blockPresent_congr h
  have hword : ∀ j : Fin 16, xword m.byteAt s.len.toNat s.block.toNat j.val =
      xword s.msg.byteAt s.len.toNat s.block.toNat j.val := fun j =>
    xword_congr j.isLt fun i hi hn => by rw [Memory.byteAt, Memory.byteAt, h i hi hn]
  simp only [execLoad, State.setMsg_len, State.setMsg_block, State.setMsg_msg, hpresent, hword]
  split_ifs <;> rfl

/-- No host transaction reads the message memory: another one in its place goes through unread. -/
theorem setMsg_hostCongruence (m : Memory) : HostCongruence fun u v : State => v = u.setMsg m where
  status := by rintro s _ rfl; rfl
  len := by rintro s _ rfl; rfl
  reply := by rintro s _ rfl off; rfl
  raise := by
    rintro s _ rfl c
    rw [raiseHostError_eq, raiseHostError_eq]
    rfl
  clear := by rintro s _ rfl; rfl
  setLen := by rintro s _ rfl L; rfl
  beginRun := by rintro s _ rfl; rfl

/-- A ROUND does not read the message memory. -/
theorem roundOp_setMsg (r : Round) (j : Fin 16) (s : State) (m : Memory) :
    roundOp r j (s.setMsg m) = (roundOp r j s).setMsg m := by
  rw [roundOp_eq, roundOp_eq]
  rfl

/-- An instruction other than LOAD does not read the message memory. -/
theorem exec_setMsg {i : Instr} (hi : i ≠ .load) (s : State) (m : Memory) :
    OutcomeRel (fun u v => v = u.setMsg m) (exec i s) (exec i (s.setMsg m)) := by
  cases ha : i.agent with
  | host => exact (setMsg_hostCongruence m).exec ha rfl
  | engine =>
    rcases engine_cases ha with rfl | rfl | rfl | ⟨r, j, hr⟩
    · exact absurd rfl hi
    · rfl
    · rfl
    · rw [exec_of_roundOf hr, exec_of_roundOf hr]
      exact roundOp_setMsg r j s m

/-- Settles O28: LOAD reads its own block below LEN, and nothing else reads the memory at all. -/
theorem messageReadsStayInBlock : Obligations.MessageReadsStayInBlock := by
  unfold Obligations.MessageReadsStayInBlock
  exact ⟨fun _ _ h => execLoad_setMsg h, fun _ s m hi => exec_setMsg hi s m⟩

/-! ## The host's moves on it while BUSY (R66, R253; log entry 7) -/

/-- While BUSY the host cannot bind a message. -/
theorem bindMessageStep_busy {s : State} (hb : s.status = .busy) (bytes : List Byte) :
    bindMessageStep bytes s = .refused .messageChangedWhileBusy := if_pos hb

/-- While BUSY the host cannot write a byte below LEN. -/
theorem writeMessageStep_refused {s : State} {off : BitVec 61} (hb : s.status = .busy)
    (hoff : off.toNat < s.len.toNat) (b : Byte) :
    writeMessageStep off b s = .refused .messageChangedWhileBusy := if_pos ⟨hb, hoff⟩

/-- At or above LEN the host writes in every STATE. -/
theorem writeMessageStep_of_len_le {s : State} {off : BitVec 61} (hoff : s.len.toNat ≤ off.toNat)
    (b : Byte) : writeMessageStep off b s = .next (s.setMsg (s.msg.write off.toNat b)) :=
  if_neg fun ⟨_, hlt⟩ => absurd hlt (Nat.not_lt.2 hoff)

/-- Settles O36: each clause is one branch of the two moves of the host. -/
theorem messageFixedWhileBusy : Obligations.MessageFixedWhileBusy := by
  unfold Obligations.MessageFixedWhileBusy
  intro s hb
  exact ⟨bindMessageStep_busy hb, fun _ b hoff => writeMessageStep_refused hb hoff b,
    fun _ b hoff => writeMessageStep_of_len_le hoff b⟩

end Sys2Proof.Machine
end

section
/-! PROOFS. The encoding (30_encoding.md): the decoder by fields, the two round trips, and the tables of
R72, R79 and R80. -/

namespace Sys2Proof

/-! ## Command words and offsets (R72, R79) -/

/-- The fields R72 tests for an illegal command word say that its value is at least 3. -/
theorem illegal_fields_iff (w : Word) :
    (w.extractLsb' 4 28 ≠ 0 ∨ 3 ≤ (w.extractLsb' 0 4).toNat) ↔ 3 ≤ w.toNat := by
  have hw := w.isLt
  simp only [ne_eq, ← BitVec.toNat_inj, BitVec.extractLsb'_toNat, Nat.shiftRight_eq_div_pow]
  simp only [BitVec.ofNat_eq_ofNat, BitVec.toNat_ofNat]
  omega

theorem three_le_toNat_iff (w : Word) : 3 ≤ w.toNat ↔ w ≠ 0 ∧ w ≠ 1 ∧ w ≠ 2 := by
  bv_omega

/-- R72 by the whole command word. -/
theorem decodeCommand_eq (w : Word) :
    decodeCommand w =
      if w = 0 then .nop else if w = 1 then .start else if w = 2 then .clearErr else .cmdIllegal w := by
  simp only [decodeCommand, illegal_fields_iff, three_le_toNat_iff]
  split_ifs <;> simp_all

theorem illegalCommand_iff (w : Word) : illegalCommand w = true ↔ w ≠ 0 ∧ w ≠ 1 ∧ w ≠ 2 := by
  rw [← three_le_toNat_iff, ← illegal_fields_iff]
  simp [illegalCommand]

theorem readOnlyOrReserved_iff (off : BitVec 6) :
    readOnlyOrReserved off = true ↔ off ≠ 0x00 ∧ off ≠ 0x10 ∧ off ≠ 0x14 := by
  simp [readOnlyOrReserved, and_assoc]

/-! ## Host records (R78) -/

@[simp] theorem decode_host_pack (t : HostTxn) : decode (.host t.pack) = .ok (decodeHost t) := by
  simp [decode]

/-- A host instruction decodes back: the two restricted rows need their operand in range. -/
theorem decode_encode_of_host {i : Instr} (ha : i.agent = .host) (hw : i.wellFormed = true) :
    decode (encode i) = .ok i := by
  cases i <;> simp only [Instr.agent, reduceCtorEq] at ha <;>
    simp only [encode, writeRecord, decode_host_pack, Except.ok.injEq]
  case nop => rfl
  case start => rfl
  case clearErr => rfl
  case cmdIllegal w =>
    obtain ⟨h0, h1, h2⟩ := (illegalCommand_iff w).1 hw
    simp only [decodeHost, decodeCommand_eq, if_true, if_neg h0, if_neg h1, if_neg h2]
  case rd off data => rfl
  case wrLenLo v => rfl
  case wrLenHi v => rfl
  case wrRo off v =>
    obtain ⟨h0, h1, h2⟩ := (readOnlyOrReserved_iff off).1 hw
    simp only [decodeHost, if_true, if_neg h0, if_neg h1, if_neg h2]

/-- A write at CMD is the encoding of the command it decodes to, and a reserved word is an operand that
CMD.ILLEGAL may have. -/
theorem encode_decodeCommand (w : Word) :
    encode (decodeCommand w) = writeRecord 0x00 w ∧ (decodeCommand w).wellFormed = true := by
  rw [decodeCommand_eq]
  split_ifs with h0 h1 h2
  · exact ⟨h0 ▸ rfl, rfl⟩
  · exact ⟨h1 ▸ rfl, rfl⟩
  · exact ⟨h2 ▸ rfl, rfl⟩
  · exact ⟨rfl, (illegalCommand_iff w).2 ⟨h0, h1, h2⟩⟩

/-- A record is the encoding of the instruction it decodes to. -/
theorem encode_decodeHost (t : HostTxn) :
    encode (decodeHost t) = .host t.pack ∧ (decodeHost t).wellFormed = true := by
  obtain ⟨write, off, data⟩ := t
  cases write with
  | false => exact ⟨rfl, rfl⟩
  | true =>
    simp only [decodeHost, if_true]
    split_ifs with h0 h1 h2
    · rw [h0]
      exact encode_decodeCommand data
    · exact ⟨h1 ▸ rfl, rfl⟩
    · exact ⟨h2 ▸ rfl, rfl⟩
    · exact ⟨rfl, (readOnlyOrReserved_iff off).2 ⟨h0, h1, h2⟩⟩

/-! ## Sequencer words (R80) -/

/-- A sequencer word is its two fields. -/
@[simp] theorem seqPhase_append_seqStep (w : BitVec 9) :
    (seqPhase w ++ seqStep w : BitVec (3 + 6)) = w := by
  revert w
  decide

theorem decodeSeq_of_phase_two {w : BitVec 9} (h : seqPhase w = 2) :
    decodeSeq w = decodeRound (seqStep w) := if_pos h

/-- STEP[5:4] = 11 selects no round (R80). -/
theorem decodeRound_of_le {st : BitVec 6} (h : 48 ≤ st.toNat) :
    decodeRound st = .error .unreachableSequencerWord := by
  revert st
  decide

/-- A STEP value is the STEP field of the word of the ROUND it selects. -/
theorem encode_of_decodeRound {st : BitVec 6} {i : Instr} (h : decodeRound st = .ok i) :
    encode i = .seq (2#3 ++ st : BitVec (3 + 6)) := by
  have key : ∀ st : BitVec 6, (decodeRound st).toOption.all
      (fun i => decide (encode i = .seq (2#3 ++ st : BitVec (3 + 6)))) = true := by decide
  simpa [h, Except.toOption] using key st

theorem wellFormed_of_roundOf {i : Instr} (h : i.roundOf ≠ none) : i.wellFormed = true := by
  cases i <;> simp_all [Instr.roundOf, Instr.wellFormed]

/-- A sequencer word is the encoding of the micro-operation it selects. -/
theorem encode_of_decodeSeq {w : BitVec 9} {i : Instr} (h : decodeSeq w = .ok i) :
    encode i = .seq w ∧ i.wellFormed = true := by
  rw [← seqPhase_append_seqStep w]
  rcases decodeSeq_ok h with ⟨rfl, hp, hs⟩ | ⟨rfl, hp, hs⟩ | ⟨rfl, hp, hs⟩ | ⟨hr, hp, -⟩
  · rw [hp, hs]
    exact ⟨rfl, rfl⟩
  · rw [hp, hs]
    exact ⟨rfl, rfl⟩
  · rw [hp, hs]
    exact ⟨rfl, rfl⟩
  · rw [decodeSeq_of_phase_two hp] at h
    rw [hp]
    exact ⟨encode_of_decodeRound h, wellFormed_of_roundOf hr⟩

/-- The 51 words of the micro-operations, one by one. -/
theorem decode_encode_of_engine {i : Instr} (ha : i.agent = .engine) : decode (encode i) = .ok i := by
  cases i <;> simp only [Instr.agent, reduceCtorEq] at ha <;> rfl

/-- The words R80 marks "never held" are rejected by that name (R83). -/
theorem decodeSeq_of_neverHeld {w : BitVec 9} (h : Machine.NeverHeld (seqPhase w) (seqStep w)) :
    decodeSeq w = .error .unreachableSequencerWord := by
  rcases h with ⟨hp, hs⟩ | hp | ⟨hp, hs⟩
  · rw [decodeSeq_of_phase_two hp, decodeRound_of_le hs]
  · have hne : ∀ n : BitVec 3, n.toNat < 5 → seqPhase w ≠ n := by
      rintro n hn rfl
      omega
    simp [decodeSeq, hne]
  · rw [decodeSeq, if_neg hp, if_pos hs]

/-! ## The statements -/

/-- Settles O1: a micro-operation by its word in the table, a host transaction by the fields of its record. -/
theorem decodeOfEncode : Obligations.DecodeOfEncode := by
  unfold Obligations.DecodeOfEncode
  intro i hw
  cases ha : i.agent with
  | host => exact decode_encode_of_host ha hw
  | engine => exact decode_encode_of_engine ha

/-- Settles O2: a host record by the branches of its decoding, a sequencer word by its fields. -/
theorem encodeOfDecode : Obligations.EncodeOfDecode := by
  unfold Obligations.EncodeOfDecode
  intro w i h
  cases w with
  | host rec =>
    cases h
    simpa using encode_decodeHost (HostTxn.unpack rec)
  | seq w => exact encode_of_decodeSeq h

/-- Settles O3: the packed word holds the record, and R72's field test is a test of the whole word. -/
theorem hostDecodingIsTotal : Obligations.HostDecodingIsTotal := by
  unfold Obligations.HostDecodingIsTotal
  intro t
  rw [decode_host_pack, decodeHost, decodeCommand_eq]
  cases t.write <;> rfl

/-- Settles O4: the held words by their fields, the others by `NeverHeld`. -/
theorem sequencerDecoding : Obligations.SequencerDecoding := by
  unfold Obligations.SequencerDecoding
  intro p st
  have hnever : Machine.NeverHeld p st →
      decode (.seq (p ++ st : BitVec (3 + 6))) = .error .unreachableSequencerWord := fun h =>
    decodeSeq_of_neverHeld (by simpa using h)
  refine ⟨?_, ?_, ?_, ?_, ?_, fun hp hs => hnever (.inl ⟨hp, hs⟩), fun hp => hnever (.inr (.inl hp)),
    fun hp hs => hnever (.inr (.inr ⟨hp, hs⟩))⟩
  · rintro rfl rfl
    rfl
  · rintro rfl rfl
    rfl
  · rintro rfl rfl
    rfl
  · rintro rfl rfl
    rfl
  · rintro rfl hs
    obtain ⟨i, r, j, hi, hspec⟩ := decodeRound_spec st hs
    refine ⟨i, r, j, ?_, hspec⟩
    rw [decode, decodeSeq_of_phase_two (seqPhase_append _ _), seqStep_append, hi]

/-- Settles O5, by running the decoder on each word. -/
theorem writtenOutWordsDecode : Obligations.WrittenOutWordsDecode := by
  unfold Obligations.WrittenOutWordsDecode
  decide

end Sys2Proof
end

section
/-! PROOFS. Placed and never-held words, and the host's programs (30_encoding.md R80, R83, R86;
70_reset_and_hazards.md R305). -/

namespace Sys2Proof.Machine

/-! ## A placed word is run (log entry 11) -/

theorem encode_agent (i : Instr) : (encode i).agent = i.agent := by
  cases i <;> rfl

/-- A placed host record is the next transaction, and the rest of the inbox stays. -/
theorem step_placeWord_host {s : State} (rec : BitVec 39) (h : s.err = true ∨ s.errCause = .noCause) :
    step (placeWord s (.host rec)) = exec (decodeHost (HostTxn.unpack rec)) s :=
  step_host (s := placeWord s (.host rec)) rfl h

/-- A placed sequencer word is SEQ at the next engine step, in BUSY. -/
theorem step_placeWord_seq (s : State) {w : BitVec 9} {i : Instr} (h : decodeSeq w = .ok i) :
    step (placeWord s (.seq w)) =
      exec i { s with phase := seqPhase w, stepNo := seqStep w, status := .busy } := by
  rw [step_cons (s := placeWord s (.seq w)) rfl]
  exact engineStep_busy rfl ((congrArg decodeSeq (seqPhase_append_seqStep w)).trans h)

/-- Settles O8: the placed word decodes to the instruction, by the round trip, and is next. -/
theorem placedWordIsRun : Obligations.PlacedWordIsRun := by
  unfold Obligations.PlacedWordIsRun
  intro i s hw
  have hdecode := decodeOfEncode i hw
  have hagent := encode_agent i
  cases he : encode i with
  | host rec =>
    rw [he] at hdecode hagent
    cases hdecode
    exact ⟨fun _ hheld => step_placeWord_host rec hheld, fun ha => (nomatch hagent.trans ha)⟩
  | seq w =>
    rw [he] at hdecode hagent
    exact ⟨fun ha => (nomatch hagent.trans ha), fun _ => ⟨w, rfl, step_placeWord_seq s hdecode⟩⟩

/-! ## Never-held sequencer words (R80, R83) -/

theorem not_neverHeld_step_zero {p : BitVec 3} (h : p.toNat ≤ 4) : ¬ NeverHeld p 0 := by
  rintro (⟨-, hs⟩ | hp | ⟨-, hs⟩)
  · exact absurd hs (by decide)
  · omega
  · exact hs rfl

/-- A host transaction leaves SEQ alone, but for the START that is accepted (R240, R251). -/
theorem exec_host_seq {i : Instr} {s t : State} (hi : i.agent = .host) (h : exec i s = .next t) :
    (t.phase = s.phase ∧ t.stepNo = s.stepNo) ∨ (i = .start ∧ t.phase = 1 ∧ t.stepNo = 0) := by
  rcases exec_host_next hi h with ⟨-, rfl⟩ | ⟨_, _, -, rfl⟩ | ⟨-, rfl⟩ | ⟨-, c, -, rfl⟩ |
    ⟨-, -, L, rfl⟩ | ⟨rfl, -, -, rfl⟩
  · exact .inl ⟨rfl, rfl⟩
  · exact .inl ⟨rfl, rfl⟩
  · exact .inl ⟨rfl, rfl⟩
  · exact .inl ⟨s.raiseHostError_phase c, s.raiseHostError_stepNo c⟩
  · exact .inl ⟨rfl, rfl⟩
  · exact .inr ⟨rfl, rfl, rfl⟩

/-- A ROUND counts STEP up below 47 and then leaves PHASE 010 (R184). -/
theorem roundOp_not_neverHeld {s : State} (hp : s.phase = 2) (r : Round) (j : Fin 16) :
    ¬ NeverHeld (roundOp r j s).phase (roundOp r j s).stepNo := by
  rw [roundOp_phase, roundOp_stepNo, hp]
  split_ifs with hlt
  · have hnext : (s.stepNo + 1).toNat < 48 := by bv_omega
    rintro (⟨-, hs⟩ | hfive | ⟨hne, -⟩)
    · omega
    · exact absurd hfive (by decide)
    · exact hne rfl
  · exact not_neverHeld_step_zero (by decide)

theorem exec_host_not_neverHeld {i : Instr} {s t : State} (hi : i.agent = .host)
    (hs : ¬ NeverHeld s.phase s.stepNo) (h : exec i s = .next t) : ¬ NeverHeld t.phase t.stepNo := by
  rcases exec_host_seq hi h with ⟨hp, hst⟩ | ⟨-, hp, hst⟩ <;> rw [hp, hst]
  · exact hs
  · exact not_neverHeld_step_zero (by decide)

theorem engineStep_not_neverHeld {s t : State} (hs : ¬ NeverHeld s.phase s.stepNo)
    (h : engineStep s = .next t) : ¬ NeverHeld t.phase t.stepNo := by
  rcases engineStep_next h with ⟨-, rfl⟩ | ⟨-, -, -, h⟩ | ⟨-, -, -, h⟩ | ⟨-, -, -, h⟩ |
    ⟨-, hp, -, r, j, rfl⟩
  · exact hs
  · obtain ⟨-, -, -, rfl⟩ := execLoad_next h
    exact not_neverHeld_step_zero (p := 2) (by decide)
  · cases h
    refine not_neverHeld_step_zero ?_
    dsimp only
    split_ifs <;> decide
  · cases h
    exact not_neverHeld_step_zero (p := 0) (by decide)
  · exact roundOp_not_neverHeld hp r j

/-- No step leads to a never-held word. -/
theorem step_not_neverHeld {s t : State} (hs : ¬ NeverHeld s.phase s.stepNo) (h : step s = .next t) :
    ¬ NeverHeld t.phase t.stepNo := by
  cases hi : s.inbox with
  | nil => exact engineStep_not_neverHeld hs (step_nil hi ▸ h)
  | cons e es =>
    rw [step_cons hi] at h
    rcases eventStep_next h with ⟨i, ha, fs, h⟩ | h | ⟨l, -, rfl⟩ | ⟨m, rfl⟩
    · exact exec_host_not_neverHeld (s := (s.setInbox es).setInbox fs) ha hs h
    · exact engineStep_not_neverHeld (s := s.setInbox es) hs h
    · exact not_neverHeld_step_zero (p := 0) (by decide)
    · exact hs

/-- Settles O34: each kind of step keeps SEQ or writes a word that is held, and the decoder rejects a word
that is not. -/
theorem neverHeldWordFaults : Obligations.NeverHeldWordFaults := by
  unfold Obligations.NeverHeldWordFaults
  refine ⟨fun s t => step_not_neverHeld, fun s hb hn => ?_⟩
  have hdecode : decodeSeq s.seq = .error .unreachableSequencerWord :=
    decodeSeq_of_neverHeld (by simpa using hn)
  simp [engineStep, hb, hdecode]

/-! ## Runs of host programs (R86, R305) -/

theorem run_succ {s t : State} (h : step s = .next t) (k : Nat) : run (k + 1) s = run k t := by
  simp [run, h]

/-- A write of LEN_LO outside BUSY (R233). -/
theorem step_wrLenLo {s : State} {v : Word} {es : List Event} (hb : s.status ≠ .busy)
    (h : s.err = true ∨ s.errCause = .noCause) (hi : s.inbox = (Stmt.wr offLenLo v).event :: es) :
    step s = .next ((s.setInbox es).setLen (s.len.extractLsb' 32 32 ++ v : BitVec (32 + 32))) :=
  (step_host hi h).trans (show execWrLenLo v (s.setInbox es) = _ from if_neg hb)

/-- A write of LEN_HI outside BUSY (R233). -/
theorem step_wrLenHi {s : State} {v : Word} {es : List Event} (hb : s.status ≠ .busy)
    (h : s.err = true ∨ s.errCause = .noCause) (hi : s.inbox = (Stmt.wr offLenHi v).event :: es) :
    step s = .next ((s.setInbox es).setLen (v ++ s.len.extractLsb' 0 32 : BitVec (32 + 32))) :=
  (step_host hi h).trans (show execWrLenHi v (s.setInbox es) = _ from if_neg hb)

theorem execStart_accepted {s : State} (hb : s.status ≠ .busy) (hl : s.len.toNat ≤ maxLen) :
    exec .start s = .next s.beginRun := by
  simp [exec, execStart, hb, Nat.not_lt.2 hl]

theorem execStart_lenRange {s : State} (hb : s.status ≠ .busy) (hl : maxLen < s.len.toNat) :
    exec .start s = .next (s.raiseHostError .lenRange) := by
  simp [exec, execStart, hb, hl]

/-- The two halves that SETLEN writes are LEN, whatever LEN held (R86, R233). -/
theorem setLen_halves (L L₀ : BitVec 64) :
    (L.extractLsb' 32 32 ++ (L₀.extractLsb' 32 32 ++ L.extractLsb' 0 32 : BitVec (32 + 32)).extractLsb' 0 32 :
      BitVec (32 + 32)) = L := by
  apply BitVec.eq_of_getLsbD_eq
  intro i hi
  simp only [BitVec.getLsbD_append, BitVec.getLsbD_extractLsb']
  by_cases h : i < 32
  · simp [h]
  · simp [h, show i - 32 < 32 by omega, show 32 + (i - 32) = i by omega]

/-- SETLEN outside BUSY: its two steps write LEN and nothing else. -/
theorem run_setLen {s : State} {L : BitVec 64} {es : List Event} (hb : s.status ≠ .busy)
    (h : s.err = true ∨ s.errCause = .noCause)
    (hi : s.inbox = (Pseudo.expand (.setLen L)).map Stmt.event ++ es) :
    run 2 s = .next ((s.setInbox es).setLen L) := by
  rw [run_succ (step_wrLenLo hb h hi)]
  refine (run_succ (step_wrLenHi ?_ ?_ rfl) 0).trans ?_
  · exact hb
  · exact h
  · exact congrArg (fun K => Host.Outcome.next ((s.setInbox es).setLen K)) (setLen_halves L s.len)

@[simp] theorem statusWord_setInbox (s : State) (es : List Event) :
    statusWord (s.setInbox es) = statusWord s := rfl

@[simp] theorem statusWord_reply (s : State) (v : Word) : statusWord (s.reply v) = statusWord s := rfl

/-- A read of STATUS returns the STATUS word and does nothing else (R73, R230). -/
theorem step_rd_status {s : State} {es : List Event} (h : s.err = true ∨ s.errCause = .noCause)
    (hi : s.inbox = (Stmt.rd offStatus).event :: es) :
    step s = .next ((s.setInbox es).reply (statusWord s)) := step_host hi h

/-- The host may begin exactly outside BUSY (R305, R310). -/
theorem mayStart_statusWord (s : State) : mayStart (statusWord s) = decide (s.status ≠ .busy) := by
  rw [mayStart, statusState_statusWord]
  cases s.status <;> rfl

/-- START is confirmed when STATE is BUSY and ERR is as before (R305). -/
theorem startConfirmed_statusWord (s t : State) : startConfirmed (statusWord s) (statusWord t) =
    (decide (t.status = .busy) && !(t.err && !s.err)) := by
  rw [startConfirmed, statusState_statusWord, statusErr_statusWord, statusErr_statusWord]
  cases t.status <;> rfl

/-- What the host puts into the inbox when it may begin: bind, SETLEN, START, read STATUS (R305). -/
theorem digestProgram_of_not_busy {s : State} {M : List Byte} (hb : s.status ≠ .busy)
    (hM : M.length < 2 ^ 64) :
    digestProgram M [statusWord s] = .bindMessage M ::
      ((Pseudo.expand (.setLen (BitVec.ofNat 64 M.length))).map Stmt.event ++
        [.host startTxn, (Stmt.rd offStatus).event]) :=
  if_pos (by rw [mayStart_statusWord, decide_eq_true hb, decide_eq_true hM]; rfl)

/-- The state in which START finds the machine: M bound, LEN written, START and the read to come. -/
def startReady (s : State) (M : List Byte) : State :=
  ((s.setMsg (Memory.ofBytes M)).setLen (BitVec.ofNat 64 M.length)).setInbox
    [.host startTxn, (Stmt.rd offStatus).event]

/-- The host binds a message outside BUSY (R66, R253). -/
theorem step_bindMessage {s : State} {bytes : List Byte} {es : List Event} (hb : s.status ≠ .busy)
    (hi : s.inbox = .bindMessage bytes :: es) :
    step s = .next ((s.setInbox es).setMsg (Memory.ofBytes bytes)) :=
  (step_cons hi).trans (show bindMessageStep bytes (s.setInbox es) = _ from if_neg hb)

/-- The first three steps of the host's program. -/
theorem run_startReady {s : State} {M : List Byte} (hb : s.status ≠ .busy)
    (h : s.err = true ∨ s.errCause = .noCause) (hi : s.inbox = digestProgram M [statusWord s])
    (hM : M.length < 2 ^ 64) : run 3 s = .next (startReady s M) := by
  rw [digestProgram_of_not_busy hb hM] at hi
  rw [run_succ (step_bindMessage hb hi)]
  exact run_setLen hb h rfl

theorem startReady_len {s : State} {M : List Byte} (hM : M.length < 2 ^ 64) :
    (startReady s M).len.toNat = M.length := by
  rw [startReady, State.setInbox_len, State.setLen_len, BitVec.toNat_ofNat, Nat.mod_eq_of_lt hM]

/-- The last two steps: START, then the read of STATUS in the state t that START leaves. -/
theorem run_start_rd {s t : State} {M : List Byte} (hb : s.status ≠ .busy)
    (h : s.err = true ∨ s.errCause = .noCause) (hi : s.inbox = digestProgram M [statusWord s])
    (hM : M.length < 2 ^ 64)
    (hstart : exec .start ((startReady s M).setInbox [(Stmt.rd offStatus).event]) = .next t)
    (hinbox : t.inbox = [(Stmt.rd offStatus).event]) (ht : t.err = true ∨ t.errCause = .noCause) :
    run 5 s = .next ((t.setInbox []).reply (statusWord t)) := by
  have hfirst := (step_host (s := startReady s M) rfl h).trans hstart
  rw [run_add 3 2 (run_startReady hb h hi hM), run_succ hfirst, run_succ (step_rd_status ht hinbox), run]

/-- The message bound and LEN its length: what LOAD will find (R50, R66). -/
theorem messageHolds_of {s : State} {M : List Byte} (hlen : s.len.toNat = M.length)
    (hmsg : s.msg = Memory.ofBytes M) : MessageHolds s M :=
  ⟨hlen, fun i _ => by rw [hmsg, Memory.read_ofBytes]⟩

/-- With a length in range START is confirmed, and the program goes on to WAITDONE and READDIGEST. -/
theorem digestProgram_accepted {s : State} {M : List Byte} (hb : s.status ≠ .busy)
    (h : s.err = true ∨ s.errCause = .noCause) (hi : s.inbox = digestProgram M [statusWord s])
    (hM : M.length ≤ maxLen) :
    ∃ t, run 5 s = .next t ∧ t.status = .busy ∧ t.phase = 1 ∧ MessageHolds t M ∧ t.err = s.err ∧
      t.errCause = s.errCause ∧ t.inbox = [] ∧ t.replies = statusWord t :: s.replies ∧
      digestProgram M [statusWord s, statusWord t] =
        (Pseudo.expand .waitDone ++ Pseudo.expand .readDigest).map Stmt.event := by
  have hM64 : M.length < 2 ^ 64 := hM.trans_lt (by decide)
  have hlen : (startReady s M).len.toNat = M.length := startReady_len hM64
  have hstart := execStart_accepted (s := (startReady s M).setInbox [(Stmt.rd offStatus).event]) hb
    (hlen.trans_le hM)
  refine ⟨_, run_start_rd hb h hi hM64 hstart rfl h, rfl, rfl, messageHolds_of hlen rfl, rfl, rfl, rfl,
    rfl, if_pos ?_⟩
  rw [startConfirmed_statusWord]
  cases he : s.err <;> simp [startReady, he]

/-- With a length above MAX_LEN START is refused with LEN_RANGE, and the program ends. -/
theorem digestProgram_refused {s : State} {M : List Byte} (hb : s.status ≠ .busy)
    (h : s.err = true ∨ s.errCause = .noCause) (hi : s.inbox = digestProgram M [statusWord s])
    (hlt : maxLen < M.length) (hM : M.length < 2 ^ 64) :
    ∃ t, run 5 s = .next t ∧ t.status = s.status ∧ t.acc = s.acc ∧ t.err = true ∧ t.inbox = [] ∧
      t.replies = statusWord t :: s.replies ∧ digestProgram M [statusWord s, statusWord t] = [] := by
  have hlen : (startReady s M).len.toNat = M.length := startReady_len hM
  have hstart := execStart_lenRange (s := (startReady s M).setInbox [(Stmt.rd offStatus).event]) hb
    (hlt.trans_eq hlen.symm)
  refine ⟨_, run_start_rd hb h hi hM hstart (by simp) (by simp), by simp [startReady],
    by simp [startReady], by simp, by simp, by simp [startReady], if_neg ?_⟩
  rw [startConfirmed_statusWord]
  simp [startReady, hb]

/-- Settles O19: SETLEN by its two writes, then the program's steps one after the other; START alone
distinguishes the two lengths. -/
theorem setLenThenCheckedStart : Obligations.SetLenThenCheckedStart := by
  unfold Obligations.SetLenThenCheckedStart
  refine ⟨fun s L es hb h hi => run_setLen hb h hi, fun s M h hi => step_rd_status h hi,
    fun s M hb => ?_, fun s M hb h hi => ⟨digestProgram_accepted hb h hi, digestProgram_refused hb h hi⟩⟩
  simp [digestProgram, mayStart_statusWord, hb]

end Sys2Proof.Machine
end

section
/-! PROOFS. The codec and the padder (40_codec_padder.md): where each byte of a padded buffer comes from, the
block count, and the words the length field fills. -/

namespace Sys2Proof.Machine

/-! ## The Byte-Length Codec (R100) -/

/-- Byte k of the length field is bits [8k+7:8k] of the bit length. -/
theorem encodeLength_getElem? (b : DWord) {k : Nat} (hk : k < 8) :
    (encodeLength b)[k]? = some (b.extractLsb' (8 * k) 8) := by
  interval_cases k <;> rfl

theorem encodeLength_getD (b : DWord) {k : Nat} (hk : k < 8) :
    (encodeLength b).getD k 0 = b.extractLsb' (8 * k) 8 := by
  rw [List.getD_eq_getElem?_getD, encodeLength_getElem? b hk, Option.getD_some]

/-- Settles O45: byte k is a field of the bit length, and bit m of a field at 8k is bit 8k + m. -/
theorem lengthFieldBytes : Obligations.LengthFieldBytes := by
  unfold Obligations.LengthFieldBytes
  refine fun b => ⟨encodeLength_length b, fun k m hk hm => ?_⟩
  rw [encodeLength_getD b hk, BitVec.getLsbD_extractLsb', decide_eq_true hm, Bool.true_and]

/-! ## The number of zero bytes (R102, R103) -/

theorem padZeros_le (L : Nat) : padZeros L ≤ 63 := by
  unfold padZeros
  split <;> omega

/-- The message, the marker and the zero bytes end at byte 56 of a block (R103 (ii)). -/
theorem add_padZeros_mod (L : Nat) : (L + 1 + padZeros L) % 64 = 56 := by
  unfold padZeros
  split <;> omega

/-- R103 (ii) fixes k in [0, 63]: two solutions differ by a multiple of 64. -/
theorem eq_padZeros {L k : Nat} (hk : k ≤ 63) (hmod : (L + 1 + k) % 64 = 56) : k = padZeros L := by
  have hle := padZeros_le L
  have hpad := add_padZeros_mod L
  omega

theorem pad_getElem?_zero (L : Nat) : (pad L)[0]? = some 0x80 := rfl

theorem pad_getElem?_pos {L i : Nat} (hpos : 0 < i) (hi : i < (pad L).length) :
    (pad L)[i]? = some 0x00 := by
  rw [pad_length] at hi
  obtain ⟨j, rfl⟩ := Nat.exists_eq_add_of_lt hpos
  simp only [pad, Nat.zero_add, List.getElem?_cons_succ]
  exact List.getElem?_replicate_of_lt (by omega)

/-- Settles O44: (i), (ii) and the uniqueness from the two cases of k, (iii) and (iv) from the form of pad. -/
theorem paddingLaws : Obligations.PaddingLaws := by
  unfold Obligations.PaddingLaws
  intro L
  have hle := padZeros_le L
  have hlen := pad_length L
  exact ⟨hle, add_padZeros_mod L, by omega, by omega, pad_getElem?_zero L,
    fun i hpos hi => pad_getElem?_pos hpos hi, fun k hk hmod => eq_padZeros hk hmod⟩

/-! ## The block count (R105, R107) -/

/-- The padding stops eight bytes short of a block's end (R103 (ii)), and the length field fills them. -/
theorem paddedLength_eq (L : Nat) : paddedLength L = 64 * blockCount L := by
  have hpad := add_padZeros_mod L
  unfold blockCount paddedLength
  omega

/-- k + 1 bytes reach the next offset that is 56 in its block, so N(L) counts the block of byte L + 8. -/
theorem blockCount_eq (L : Nat) : blockCount L = (L + 8) / 64 + 1 := by
  have hle := padZeros_le L
  have hpad := add_padZeros_mod L
  unfold blockCount paddedLength
  omega

/-- Settles O47: T(L) is 64 N(L), and N(L) in closed form; the second form is the first with the 1 inside. -/
theorem blockCountClosedForm : Obligations.BlockCountClosedForm := by
  unfold Obligations.BlockCountClosedForm
  intro L
  have hlen := paddedLength_eq L
  have hcount := blockCount_eq L
  exact ⟨rfl, by omega, hlen, hcount, by omega⟩

/-- The length field begins at byte 56 of block N(L) - 1 (R108). -/
theorem paddedLength_sub_eq (L : Nat) : paddedLength L - 8 = 64 * (blockCount L - 1) + 56 := by
  have hlen := paddedLength_eq L
  have hpos := blockCount_pos L
  omega

/-! ## The bytes of a padded buffer (R104), by part -/

theorem padded_length (M : List Byte) : (padded M).length = paddedLength M.length := by
  simp only [padded, List.length_append, pad_length, encodeLength_length, paddedLength]
  omega

theorem padded_getElem?_message {M : List Byte} {i : Nat} (hi : i < M.length) :
    (padded M)[i]? = M[i]? := by
  rw [padded, List.append_assoc, List.getElem?_append_left hi]

theorem padded_getElem?_pad (M : List Byte) {i : Nat} (hi : i < (pad M.length).length) :
    (padded M)[M.length + i]? = (pad M.length)[i]? := by
  rw [padded, List.append_assoc, List.getElem?_append_right (Nat.le_add_right _ _),
    Nat.add_sub_cancel_left, List.getElem?_append_left hi]

theorem padded_getElem?_marker (M : List Byte) : (padded M)[M.length]? = some 0x80 :=
  padded_getElem?_pad M (i := 0) (by rw [pad_length]; omega)

theorem padded_getElem?_lengthField (M : List Byte) (k : Nat) :
    (padded M)[paddedLength M.length - 8 + k]? = (encodeLength (bitlen M.length))[k]? := by
  have hlen : paddedLength M.length - 8 = (M ++ pad M.length).length := by
    rw [List.length_append, pad_length, paddedLength]
    omega
  rw [hlen, padded, List.getElem?_append_right (Nat.le_add_right _ _), Nat.add_sub_cancel_left]

/-! ## The byte function (R106), by range -/

theorem length_lt_paddedLength_sub (L : Nat) : L < paddedLength L - 8 := by
  unfold paddedLength
  omega

theorem paddedByte_message {M : Nat → Byte} {L i : Nat} (hi : i < L) : paddedByte M L i = M i :=
  if_pos hi

theorem paddedByte_marker (M : Nat → Byte) (L : Nat) : paddedByte M L L = 0x80 := by
  simp [paddedByte]

theorem paddedByte_zeros {M : Nat → Byte} {L i : Nat} (hL : L < i) (hi : i < paddedLength L - 8) :
    paddedByte M L i = 0x00 := by
  simp [paddedByte, hi, hL.not_gt, hL.ne']

theorem paddedByte_lengthField (M : Nat → Byte) (L k : Nat) :
    paddedByte M L (paddedLength L - 8 + k) = (encodeLength (bitlen L)).getD k 0x00 := by
  have hL := length_lt_paddedLength_sub L
  rw [paddedByte, if_neg (by omega), if_neg (by omega), if_neg (by omega), Nat.add_sub_cancel_left]

/-- The buffer and the byte function agree on each of the four ranges of R106. -/
theorem padded_getElem? (M : List Byte) {i : Nat} (hi : i < paddedLength M.length) :
    (padded M)[i]? = some (paddedByte (fun k => M.getD k 0) M.length i) := by
  rcases lt_trichotomy i M.length with hlt | rfl | hgt
  · rw [padded_getElem?_message hlt, paddedByte_message hlt, List.getD_eq_getElem?_getD,
      List.getElem?_eq_getElem hlt, Option.getD_some]
  · rw [padded_getElem?_marker, paddedByte_marker]
  · rcases lt_or_ge i (paddedLength M.length - 8) with hzero | hfield
    · rw [paddedByte_zeros hgt hzero]
      obtain ⟨j, rfl⟩ := Nat.exists_eq_add_of_le hgt.le
      have hj : j < (pad M.length).length := by
        rw [pad_length]
        unfold paddedLength at hzero
        omega
      rw [padded_getElem?_pad M hj, pad_getElem?_pos (by omega) hj]
    · obtain ⟨k, rfl⟩ := Nat.exists_eq_add_of_le hfield
      have hk : k < 8 := by omega
      rw [paddedByte_lengthField, padded_getElem?_lengthField, encodeLength_getD _ hk,
        encodeLength_getElem? _ hk]

/-- Settles O46: the lengths of the three parts add up, and the byte function agrees part by part. -/
theorem paddedStreamIsPaddedBuffer : Obligations.PaddedStreamIsPaddedBuffer := by
  unfold Obligations.PaddedStreamIsPaddedBuffer
  exact fun M => ⟨padded_length M, fun i hi => padded_getElem? M hi⟩

/-! ## Words of a parsed block (R120, R121, R124) -/

/-- Word j of block n is the four bytes of the buffer from 64n + 4j on. -/
theorem parseBlock_get (Q : List Byte) (n : Nat) (j : Fin 16) :
    (parseBlock Q n).get j = wordOfBytes (Q.getD (64 * n + 4 * j) 0) (Q.getD (64 * n + 4 * j + 1) 0)
      (Q.getD (64 * n + 4 * j + 2) 0) (Q.getD (64 * n + 4 * j + 3) 0) := by
  have hbyte : ∀ m, m < 64 → ((Q.drop (64 * n)).take 64).getD m 0 = Q.getD (64 * n + m) 0 := by
    intro m hm
    simp only [List.getD_eq_getElem?_getD, List.getElem?_take_of_lt hm, List.getElem?_drop]
  have hword : (parseBlock Q n).get j = blockWord ((Q.drop (64 * n)).take 64) j := by
    simp [parseBlock, Vector.get_eq_getElem]
  have hj := j.isLt
  rw [hword, blockWord, hbyte _ (by omega), hbyte _ (by omega), hbyte _ (by omega),
    hbyte _ (by omega)]
  rfl

/-- The words of a padded buffer are those of the hardware word function (R124). -/
theorem parseBlock_padded_get (M : List Byte) {n : Nat} (hn : n < blockCount M.length) (j : Fin 16) :
    (parseBlock (padded M) n).get j = xword (fun k => M.getD k 0) M.length n j := by
  have hlen := paddedLength_eq M.length
  have hj := j.isLt
  have hbyte : ∀ i, i < paddedLength M.length →
      (padded M).getD i 0 = paddedByte (fun k => M.getD k 0) M.length i := fun i hi => by
    rw [List.getD_eq_getElem?_getD, padded_getElem? M hi, Option.getD_some]
  rw [parseBlock_get, xword, hbyte _ (by omega), hbyte _ (by omega), hbyte _ (by omega),
    hbyte _ (by omega)]

/-! ## The length field in the last block (R108) -/

/-- Four consecutive bytes of a doubleword, assembled, are its word at that place. -/
theorem wordOfBytes_extractLsb' (b : DWord) (i : Nat) :
    wordOfBytes (b.extractLsb' i 8) (b.extractLsb' (i + 8) 8) (b.extractLsb' (i + 16) 8)
      (b.extractLsb' (i + 24) 8) = b.extractLsb' i 32 := by
  have hjoin : ∀ p n, b.extractLsb' (p + 8) n ++ b.extractLsb' p 8 = b.extractLsb' p (n + 8) :=
    fun _ _ => BitVec.extractLsb'_append_extractLsb'_eq_extractLsb' rfl
  rw [wordOfBytes, hjoin (i + 16), hjoin (i + 8), hjoin i]

/-- Words 14 and 15 of the last block are the two halves of the bit length. -/
theorem xword_last (M : Nat → Byte) (L : Nat) {h : Nat} (hh : h < 2) :
    xword M L (blockCount L - 1) (14 + h) = (bitlen L).extractLsb' (32 * h) 32 := by
  have hbyte : ∀ m, m < 4 → paddedByte M L (64 * (blockCount L - 1) + 4 * (14 + h) + m) =
      (bitlen L).extractLsb' (32 * h + 8 * m) 8 := by
    intro m hm
    have hoff : 64 * (blockCount L - 1) + 4 * (14 + h) + m = paddedLength L - 8 + (4 * h + m) := by
      rw [paddedLength_sub_eq]
      omega
    rw [hoff, paddedByte_lengthField, encodeLength_getD _ (by omega), Nat.mul_add, ← Nat.mul_assoc]
  have hfirst := hbyte 0 (by decide)
  simp only [Nat.add_zero, Nat.mul_zero] at hfirst
  rw [xword, hfirst, hbyte 1 (by decide), hbyte 2 (by decide), hbyte 3 (by decide)]
  exact wordOfBytes_extractLsb' _ _

/-- Settles O48: the marker follows the message, the length field is the last eight bytes of block
N(L) - 1, and the closed form of N(L) says which block that is. -/
theorem lengthFieldIsLastTwoWords : Obligations.LengthFieldIsLastTwoWords := by
  unfold Obligations.LengthFieldIsLastTwoWords
  intro M hM
  have hcount := blockCount_eq M.length
  have hlast : ∀ j : Fin 16, (parseBlock (padded M) (blockCount M.length - 1)).get j =
      xword (fun k => M.getD k 0) M.length (blockCount M.length - 1) j :=
    parseBlock_padded_get M (Nat.sub_one_lt (blockCount_pos M.length).ne')
  refine ⟨?_, (hlast 14).trans (xword_last _ _ (h := 0) (by decide)),
    (hlast 15).trans (xword_last _ _ (h := 1) (by decide)), bitlen_toNat hM, by omega, by omega⟩
  rw [Nat.div_add_mod]
  exact padded_getElem?_marker M

end Sys2Proof.Machine
end

section
/-! PROOFS. The Block Parser (41_block_parser.md): the bits of an assembled word, and LOAD of a block of a
message the memory holds. -/

namespace Sys2Proof.Machine

/-! ## Word assembly (R120) -/

/-- The byte appended last fills the low eight bits. -/
theorem getLsbD_append_byte_low {n : Nat} (x : BitVec n) (b : Byte) {i : Nat} (hi : i < 8) :
    (x ++ b).getLsbD (8 * 0 + i) = b.getLsbD i := by
  simp [BitVec.getLsbD_append, hi]

/-- Above the byte appended last stand the bits of the vector before it. -/
theorem getLsbD_append_byte_high {n : Nat} (x : BitVec n) (b : Byte) (m i : Nat) :
    (x ++ b).getLsbD (8 * (m + 1) + i) = x.getLsbD (8 * m + i) := by
  rw [BitVec.getLsbD_append, if_neg (by omega)]
  congr 1
  omega

/-- Byte m of the four fills bits [8m+7:8m] of the assembled word. -/
theorem wordOfBytes_getLsbD (b0 b1 b2 b3 : Byte) {m i : Nat} (hm : m < 4) (hi : i < 8) :
    (wordOfBytes b0 b1 b2 b3).getLsbD (8 * m + i) = ([b0, b1, b2, b3].getD m 0).getLsbD i := by
  have hlow {n : Nat} (x : BitVec n) (b : Byte) := getLsbD_append_byte_low x b hi
  have hhigh {n : Nat} (x : BitVec n) (b : Byte) (m : Nat) := getLsbD_append_byte_high x b m i
  unfold wordOfBytes
  interval_cases m
  · exact hlow _ b0
  · exact (hhigh _ b0 0).trans (hlow _ b1)
  · exact (hhigh _ b0 1).trans ((hhigh _ b1 0).trans (hlow _ b2))
  · have hlast : b3.getLsbD (8 * 0 + i) = b3.getLsbD i := by rw [Nat.mul_zero, Nat.zero_add]
    exact (hhigh _ b0 2).trans ((hhigh _ b1 1).trans ((hhigh _ b2 0).trans hlast))

/-- Settles O49: word j assembles the bytes 4j to 4j + 3 of the block. -/
theorem wordAssemblyIsLittleEndian : Obligations.WordAssemblyIsLittleEndian := by
  unfold Obligations.WordAssemblyIsLittleEndian
  intro B j m i _ hm hi
  rw [blockWord, wordOfBytes_getLsbD _ _ _ _ hm hi]
  interval_cases m <;> rfl

/-! ## LOAD of a block of the message (R124, R125) -/

/-- LOAD within the padded stream, of a block whose message bytes are all there. -/
theorem execLoad_of_present {s : State} (hlen : s.len.toNat ≤ maxLen)
    (hblock : s.block.toNat < blockCount s.len.toNat)
    (hpresent : blockPresent s.msg s.len.toNat s.block.toNat = true) :
    execLoad s = .next (s.loadBlock
      (Vector.ofFn fun j => xword s.msg.byteAt s.len.toNat s.block.toNat j.val)) := by
  simp [execLoad, hlen.not_gt, hblock.not_ge, hpresent]

namespace MessageHolds

variable {s : State} {M : List Byte}

theorem read_eq_getD (h : MessageHolds s M) {i : Nat} (hi : i < M.length) :
    s.msg.read i = some (M.getD i 0) := by
  rw [h.bytes i hi, List.getD_eq_getElem?_getD, List.getElem?_eq_getElem hi, Option.getD_some]

/-- Every block of a message the memory holds is present (R51, R66). -/
theorem blockPresent (h : MessageHolds s M) (n : Nat) :
    blockPresent s.msg s.len.toNat n = true := by
  refine (blockPresent_iff _ _ _).2 fun i hi _ => ?_
  rw [h.read_eq_getD (h.length ▸ hi), Option.isSome_some]

/-- The hardware words of the memory are those of the parsed padded message (R124). -/
theorem xword_eq (h : MessageHolds s M) {n : Nat} (hn : n < blockCount M.length) (j : Fin 16) :
    xword s.msg.byteAt s.len.toNat n j = (parseBlock (padded M) n).get j := by
  rw [parseBlock_padded_get M hn, h.length]
  exact xword_congr j.isLt fun i hi _ => Memory.byteAt_of_read (h.read_eq_getD hi)

end MessageHolds

/-- Settles O20: the memory holds all of the block, and its hardware words are the parsed ones. -/
theorem loadParsesBlock : Obligations.LoadParsesBlock := by
  unfold Obligations.LoadParsesBlock
  intro s M h hM hn
  have hlen : s.len.toNat ≤ maxLen := h.length.trans_le hM
  have hX : (Vector.ofFn fun j : Fin 16 => xword s.msg.byteAt s.len.toNat s.block.toNat j.val) =
      parseBlock (padded M) s.block.toNat := by
    ext j hj
    rw [Vector.getElem_ofFn, h.xword_eq hn ⟨j, hj⟩, Vector.get_eq_getElem]
  calc execLoad s = _ := execLoad_of_present hlen (h.length.symm ▸ hn) (h.blockPresent _)
    _ = .next (s.loadBlock (parseBlock (padded M) s.block.toNat)) := by rw [hX]

end Sys2Proof.Machine
end

section
/-! PROOFS. The nonlinear functions (42_nonlinear.md): the one-bit function of each in every lane, and
the gate forms. -/

namespace Sys2Proof.Machine

/-! ## One lane of F, G and H (R140 to R143) -/

/-- A lane of F selects y or z by x. -/
theorem F_getLsbD (x y z : Word) {i : Nat} (hi : i < 32) :
    (F x y z).getLsbD i = if x.getLsbD i then y.getLsbD i else z.getLsbD i := by
  simp only [F, BitVec.getLsbD_or, BitVec.getLsbD_and, BitVec.getLsbD_not, hi, decide_true,
    Bool.true_and]
  cases x.getLsbD i <;> simp

theorem G_getLsbD (x y z : Word) (i : Nat) :
    (G x y z).getLsbD i = Bool.atLeastTwo (x.getLsbD i) (y.getLsbD i) (z.getLsbD i) := by
  simp only [G, BitVec.getLsbD_or, BitVec.getLsbD_and, Bool.atLeastTwo]

theorem H_getLsbD (x y z : Word) (i : Nat) :
    (H x y z).getLsbD i = ((x.getLsbD i ^^ y.getLsbD i) ^^ z.getLsbD i) := by
  simp only [H, BitVec.getLsbD_xor]

/-! ## The one-bit functions: counts of set bits (R144) and gate forms (R145) -/

theorem atLeastTwo_eq_two_le_count : ∀ a b c : Bool,
    Bool.atLeastTwo a b c = decide (2 ≤ a.toNat + b.toNat + c.toNat) := by decide

theorem xor_xor_eq_count_odd : ∀ a b c : Bool,
    ((a ^^ b) ^^ c) = decide ((a.toNat + b.toNat + c.toNat) % 2 = 1) := by decide

theorem select_eq_xor_gate : ∀ a b c : Bool, (if a then b else c) = (c ^^ (a && (b ^^ c))) := by decide

theorem atLeastTwo_eq_or_gate : ∀ a b c : Bool,
    Bool.atLeastTwo a b c = (a && b || c && (a || b)) := by decide

/-- Settles O50: each lane is the one-bit function, counted over the eight rows of the table. -/
theorem laneTables : Obligations.LaneTables := by
  unfold Obligations.LaneTables
  intro x y z i hi
  refine ⟨F_getLsbD x y z hi, ?_, ?_⟩
  · rw [G_getLsbD, atLeastTwo_eq_two_le_count]
  · rw [H_getLsbD, xor_xor_eq_count_odd]

/-- R145: the gate form of F agrees with the select in every lane. -/
theorem F_eq_gate (x y z : Word) : F x y z = z ^^^ (x &&& (y ^^^ z)) := by
  refine BitVec.eq_of_getLsbD_eq fun i hi => ?_
  rw [F_getLsbD x y z hi, select_eq_xor_gate]
  simp only [BitVec.getLsbD_xor, BitVec.getLsbD_and]

/-- R145: the gate form of G agrees with the majority in every lane. -/
theorem G_eq_gate (x y z : Word) : G x y z = (x &&& y) ||| (z &&& (x ||| y)) := by
  refine BitVec.eq_of_getLsbD_eq fun i _ => ?_
  rw [G_getLsbD, atLeastTwo_eq_or_gate]
  simp only [BitVec.getLsbD_or, BitVec.getLsbD_and]

/-- Settles O51, lane by lane. -/
theorem gateForms : Obligations.GateForms := by
  unfold Obligations.GateForms
  exact fun x y z => ⟨F_eq_gate x y z, G_eq_gate x y z⟩

end Sys2Proof.Machine
end

section
/-! PROOFS. The adder, the rotation and the step functions (43_step_functions.md): the laws of +32, the bits
of a rotated word, and T1, T2, T3 as rotated sums. -/

namespace Sys2Proof.Machine

/-! ## Addition and rotation (R160, R162) -/

theorem add32_toNat (x y : Word) : (add32 x y).toNat = (x.toNat + y.toNat) % 2 ^ 32 := by
  rw [add32_eq_add, BitVec.toNat_add]

theorem add32_comm (x y : Word) : add32 x y = add32 y x := by
  rw [add32_eq_add, add32_eq_add, BitVec.add_comm]

theorem add32_assoc (x y z : Word) : add32 (add32 x y) z = add32 x (add32 y z) := by
  simp only [add32_eq_add, BitVec.add_assoc]

/-- Within the range of R162 the rotation is the word type's own. -/
theorem rotl32_eq_rotateLeft (v : Word) {s : Nat} (hs : s < 32) : rotl32 v s = v.rotateLeft s := by
  rcases Nat.eq_zero_or_pos s with rfl | hpos
  · simp [BitVec.rotateLeft_def, BitVec.ushiftRight_eq_zero]
  · rw [rotl32, if_neg hpos.ne', BitVec.rotateLeft_def, Nat.mod_eq_of_lt hs]

/-- The low s bits of the rotated word are the top s bits of v; the rest move up by s. -/
theorem rotl32_getLsbD (v : Word) {s i : Nat} (hs : s < 32) (hi : i < 32) :
    (rotl32 v s).getLsbD i = v.getLsbD ((i + 32 - s) % 32) := by
  rw [rotl32_eq_rotateLeft v hs, BitVec.getLsbD_rotateLeft_of_le hs]
  rcases Nat.lt_or_ge i s with his | hsi
  · have hwrapped : (i + 32 - s) % 32 = 32 - s + i := by omega
    simp only [his, hwrapped, decide_true, cond_true]
  · have hshifted : (i + 32 - s) % 32 = i - s := by omega
    simp only [hsi.not_gt, hi, hshifted, decide_false, decide_true, cond_false, Bool.true_and]

/-- Settles O52: the adder is the word type's addition, the rotation the word type's rotation. -/
theorem additionAndRotation : Obligations.AdditionAndRotation := by
  unfold Obligations.AdditionAndRotation
  exact ⟨add32_toNat, fun x y z => ⟨add32_comm x y, add32_assoc x y z⟩,
    fun v _ _ hs hi => rotl32_getLsbD v (Nat.lt_succ_of_le hs) hi⟩

/-! ## The step functions (R165 to R167) -/

theorem T1_eq (p q u v w : Word) (s : Nat) : T1 p q u v w s = rotl32 (p + F q u v + w) s := by
  simp only [T1, add32_eq_add]

theorem T2_eq (p q u v w : Word) (s : Nat) :
    T2 p q u v w s = rotl32 (p + G q u v + w + 0x5A827999) s := by
  simp only [T2, K2, add32_eq_add]

theorem T3_eq (p q u v w : Word) (s : Nat) :
    T3 p q u v w s = rotl32 (p + H q u v + w + 0x6ED9EBA1) s := by
  simp only [T3, K3, add32_eq_add]

/-- Settles O53, one step function at a time. -/
theorem stepFunctionForms : Obligations.StepFunctionForms := by
  unfold Obligations.StepFunctionForms
  exact fun p q u v w s => ⟨T1_eq p q u v w s, T2_eq p q u v w s, T3_eq p q u v w s⟩

end Sys2Proof.Machine
end

section
/-! PROOFS. The round engine (44_round_engine.md): the schedules, the 48 steps and the full step table, what
decides the next micro-operation, and the engine steps of one block as compress. -/

namespace Sys2Proof.Machine

/-! ## The schedules (R180, R182) -/

/-- Settles O54, by running through the entries of the schedules, one property at a time. -/
theorem scheduleProperties : Obligations.ScheduleProperties := by
  unfold Obligations.ScheduleProperties
  refine ⟨?_, ?_, ?_, ?_⟩
  · decide
  · decide
  · decide
  · decide

/-! ## The 48 steps unrolled (R184 to R187) -/

/-- A ROUND micro-operation leaves the working copy of its round and step, and the sequencing of R184. -/
theorem exec_eq_afterRound {i : Instr} {r : Round} {j : Fin 16} (h : i.roundOf = some (r, j)) (s : State)
    {q : Quad} (hq : roundWork r j s.X s.work = q) : exec i s = .next (afterRound s q) := by
  rw [exec_of_roundOf h, roundOp_eq, hq]

/-- Settles O21: in each row the roles, the word and the rotation of R185 are those of the schedules. -/
theorem roundOneSteps : Obligations.RoundOneSteps := by
  unfold Obligations.RoundOneSteps
  rintro s _ rfl
  and_intros <;> exact exec_eq_afterRound rfl s rfl

/-- Settles O22: in each row the roles, the word and the rotation of R186 are those of the schedules. -/
theorem roundTwoSteps : Obligations.RoundTwoSteps := by
  unfold Obligations.RoundTwoSteps
  rintro s _ rfl
  and_intros <;> exact exec_eq_afterRound rfl s rfl

/-- Settles O23: in each row the roles, the word and the rotation of R187 are those of the schedules. -/
theorem roundThreeSteps : Obligations.RoundThreeSteps := by
  unfold Obligations.RoundThreeSteps
  rintro s _ rfl
  and_intros <;> exact exec_eq_afterRound rfl s rfl

/-! ## The full step table (R181) -/

/-- The constant a round adds (R164). -/
def roundConstant : Round → Word
  | .one => K1
  | .two => K2
  | .three => K3

/-- The number of a round, counted from 0: STEP[5:4] (R80). -/
def roundNumber : Round → Nat
  | .one => 0
  | .two => 1
  | .three => 2

/-- The row that the schedules of R180 give for step j of round r. -/
def scheduledRow (r : Round) (j : Fin 16) : StepRow :=
  ⟨activeOf j.val, r, (wordIndex r).get j, rotation r j, roundConstant r⟩

theorem add32_zero (x : Word) : add32 x 0 = x := by
  rw [add32_eq_add]
  exact BitVec.add_zero x

/-- The step functions are one rotated sum, with the constant of the round (R163 to R167). -/
theorem stepFunction_eq (r : Round) (p q u v w : Word) (n : Nat) :
    stepFunction r p q u v w n =
      rotl32 (add32 (add32 (add32 p (nonlinear r q u v)) w) (roundConstant r)) n := by
  cases r with
  | one => exact congrArg (rotl32 · n) (add32_zero _).symm
  | two => rfl
  | three => rfl

/-- A scheduled row does to the working copy what its ROUND micro-operation does. -/
theorem scheduledRow_apply (r : Round) (j : Fin 16) (X : Vector Word 16) (q : Quad) :
    (scheduledRow r j).apply X q = roundWork r j X q := by
  simp only [roundWork, stepFunction_eq]
  rfl

/-- R181 lists the scheduled rows, round after round. -/
theorem stepTable_getElem? (r : Round) (j : Fin 16) :
    stepTable[16 * roundNumber r + j.val]? = some (scheduledRow r j) := by
  revert j
  cases r with
  | one => decide
  | two => decide
  | three => decide

theorem stepTable_length : stepTable.length = 48 := rfl

/-- Settles O55: row 16 n + j is the scheduled one. -/
theorem stepTableAgreesWithRounds : Obligations.StepTableAgreesWithRounds := by
  unfold Obligations.StepTableAgreesWithRounds
  intro r n j X q h
  have hn : n = roundNumber r := by
    rcases h with ⟨rfl, rfl⟩ | ⟨rfl, rfl⟩ | ⟨rfl, rfl⟩ <;> rfl
  subst hn
  exact ⟨_, stepTable_getElem? r j, scheduledRow_apply r j X q⟩

/-! ## What decides the next micro-operation (R188) -/

/-- STATE, SEQ, BLOCK and LEN: the registers an engine step branches on. -/
structure Control where
  status : Status
  phase : BitVec 3
  stepNo : BitVec 6
  block : BitVec 64
  len : BitVec 64

def State.control (s : State) : Control := ⟨s.status, s.phase, s.stepNo, s.block, s.len⟩

/-- How an engine step moves them: LOAD, ROUND, ACCUM or FINAL in BUSY, by PHASE (R125, R184, R210, R215),
and nothing outside it (R250). -/
def Control.next (c : Control) : Control :=
  if c.status ≠ .busy then c
  else if c.phase = 1 then { c with phase := 2, stepNo := 0 }
  else if c.phase = 2 then
    { c with
      phase := if c.stepNo.toNat < 47 then c.phase else 3
      stepNo := if c.stepNo.toNat < 47 then c.stepNo + 1 else 0 }
  else if c.phase = 3 then
    { c with
      block := c.block + 1
      phase := if c.block.toNat + 1 < blockCount c.len.toNat then 1 else 4
      stepNo := 0 }
  else { c with status := .done, phase := 0, stepNo := 0 }

/-- An engine step that answers moves them as a function of them alone. -/
theorem engineStep_control {s t : State} (h : engineStep s = .next t) : t.control = s.control.next := by
  rcases engineStep_next h with ⟨hb, rfl⟩ | ⟨hb, hp, -, h⟩ | ⟨hb, hp, -, h⟩ | ⟨hb, hp, -, h⟩ |
    ⟨hb, hp, -, r, j, rfl⟩
  · simp [State.control, Control.next, hb]
  · obtain ⟨-, -, -, rfl⟩ := execLoad_next h
    simp [State.control, Control.next, hb, hp]
  · cases h
    simp [State.control, Control.next, hb, hp]
  · cases h
    simp [State.control, Control.next, hb, hp]
  · simp [roundOp_eq, afterRound, State.control, Control.next, hb, hp]

/-- Settles O33: equal STATE, SEQ, BLOCK and LEN are moved alike. -/
theorem noBranchOnData : Obligations.NoBranchOnData := by
  unfold Obligations.NoBranchOnData
  intro s t u v hstatus hphase hstep hblock hlen hu hv
  have hst : s.control = t.control := by simp only [State.control, hstatus, hphase, hstep, hblock, hlen]
  have huv : u.control = v.control := by rw [engineStep_control hu, engineStep_control hv, hst]
  simpa only [State.control, Control.mk.injEq] using huv

/-! ## The engine steps of one block (R190) -/

/-- LOAD, when due, of a block of the message the memory holds. -/
theorem engineStep_load {s : State} {M : List Byte} (hinv : Inv s) (h : MessageHolds s M)
    (hb : s.status = .busy) (hp : s.phase = 1) :
    engineStep s = .next (s.loadBlock (parseBlock (padded M) s.block.toNat)) := by
  have hst : s.stepNo = 0 := hinv.stepZero (by simp [hp])
  have hd : decodeSeq s.seq = .ok .load := by simp [decodeSeq, hp, hst]
  have hlt : s.block.toNat < blockCount M.length := h.length ▸ hinv.blockBelow hb (by simp [hp])
  rw [engineStep_busy hb hd]
  exact loadParsesBlock s M h (h.length ▸ hinv.lenInRange hb) hlt

/-- ACCUM, when due. -/
theorem engineStep_accum {s : State} (hb : s.status = .busy) (hp : s.phase = 3) (hst : s.stepNo = 0) :
    engineStep s = execAccum s :=
  engineStep_busy (i := .accum) hb (by simp [decodeSeq, hp, hst])

/-- ROUND, when due, applies row STEP of the full step table to the working copy. -/
theorem engineStep_round {s : State} (hb : s.status = .busy) (hp : s.phase = 2)
    (hst : s.stepNo.toNat < 48) :
    ∃ row, stepTable[s.stepNo.toNat]? = some row ∧
      engineStep s = .next (afterRound s (row.apply s.X s.work)) := by
  obtain ⟨i, r, j, hi, hrj, hj, hr⟩ := decodeRound_spec s.stepNo hst
  have hd : decodeSeq s.seq = .ok i := by
    rw [decodeSeq_of_phase_two ((seqPhase_seq s).trans hp), seqStep_seq, hi]
  have hindex : s.stepNo.toNat = 16 * roundNumber r + j.val := by
    rw [hr, hj]
    split_ifs <;> simp only [roundNumber] <;> omega
  refine ⟨scheduledRow r j, hindex ▸ stepTable_getElem? r j, ?_⟩
  rw [engineStep_busy hb hd]
  exact exec_eq_afterRound hrj s (scheduledRow_apply r j s.X s.work).symm

/-- The working copy after the first n rows of the full step table. -/
def workAfterRows (X : Vector Word 16) (q : Quad) (n : Nat) : Quad :=
  (stepTable.take n).foldl (fun q row => row.apply X q) q

theorem workAfterRows_succ (X : Vector Word 16) (q : Quad) {n : Nat} {row : StepRow}
    (h : stepTable[n]? = some row) :
    workAfterRows X q (n + 1) = row.apply X (workAfterRows X q n) := by
  simp only [workAfterRows, List.take_add_one, h, Option.toList_some, List.foldl_append,
    List.foldl_cons, List.foldl_nil]

/-- All 48 rows, added to A to D, are compress (R190). -/
theorem add_workAfterRows (X : Vector Word 16) (S : Quad) : S.add (workAfterRows X S 48) = compress S X := by
  rw [workAfterRows, List.take_of_length_le stepTable_length.le, compress]

/-- A state with ROUND step 0 due, n ROUND steps later: ROUND step n is due, or ACCUM after all 48 (R184). -/
def afterRounds (s : State) (n : Nat) : State :=
  { s with
    work := workAfterRows s.X s.work n
    phase := if n < 48 then 2 else 3
    stepNo := if n < 48 then BitVec.ofNat 6 n else 0 }

@[simp] theorem afterRounds_status (s : State) (n : Nat) : (afterRounds s n).status = s.status := rfl
@[simp] theorem afterRounds_inbox (s : State) (n : Nat) : (afterRounds s n).inbox = s.inbox := rfl

theorem afterRounds_all_phase (s : State) : (afterRounds s 48).phase = 3 := by simp [afterRounds]
theorem afterRounds_all_stepNo (s : State) : (afterRounds s 48).stepNo = 0 := by simp [afterRounds]

theorem engineStep_afterRounds {s : State} (hb : s.status = .busy) {n : Nat} (hn : n < 48) :
    engineStep (afterRounds s n) = .next (afterRounds s (n + 1)) := by
  have hst : (afterRounds s n).stepNo.toNat = n := by
    simp only [afterRounds, if_pos hn, BitVec.toNat_ofNat]
    omega
  obtain ⟨row, hrow, hstep⟩ :=
    engineStep_round (s := afterRounds s n) hb (if_pos hn) (hst.trans_lt hn)
  rw [hst] at hrow
  have hlast : n < 47 ↔ n + 1 < 48 := by omega
  rw [hstep, afterRound, hst]
  simp only [afterRounds, if_pos hn, hlast, workAfterRows_succ s.X s.work hrow, BitVec.ofNat_add,
    BitVec.ofNat_eq_ofNat]

theorem run_one (s : State) : run 1 s = step s := by
  rw [run]
  cases step s <;> rfl

/-- The ROUND steps of a block, one after the other. -/
theorem run_afterRounds {s : State} (hb : s.status = .busy) (hi : s.inbox = []) (hp : s.phase = 2)
    (hst : s.stepNo = 0) {n : Nat} (hn : n ≤ 48) : run n s = .next (afterRounds s n) := by
  induction n with
  | zero =>
    cases s
    simp_all [run, afterRounds, workAfterRows]
  | succ n ih =>
    have hstep : step (afterRounds s n) = .next (afterRounds s (n + 1)) :=
      (step_nil (s := afterRounds s n) hi).trans (engineStep_afterRounds hb hn)
    rw [run_add n 1 (ih (by omega)), run_one, hstep]

/-- BLOCK + 1 does not overflow while a block is being processed (R34). -/
theorem Inv.block_succ_toNat {s : State} (h : Inv s) (hb : s.status = .busy) (hp : s.phase ≠ 4) :
    (s.block + 1).toNat = s.block.toNat + 1 := by
  have hlt := h.blockBelow hb hp
  have hcount := blockCount_le (h.lenInRange hb)
  bv_omega

/-- ACCUM is the step after the 48 ROUND steps. -/
theorem step_afterRounds_all {s : State} (hb : s.status = .busy) (hi : s.inbox = []) :
    step (afterRounds s 48) = execAccum (afterRounds s 48) :=
  calc step (afterRounds s 48) = engineStep (afterRounds s 48) :=
        step_nil ((afterRounds_inbox s 48).trans hi)
    _ = execAccum (afterRounds s 48) :=
        engineStep_accum ((afterRounds_status s 48).trans hb) (afterRounds_all_phase s)
          (afterRounds_all_stepNo s)

/-- The 50 engine steps from a LOAD that is due and answers: LOAD, the 48 ROUND steps, ACCUM. -/
theorem run_block {s : State} {X : Vector Word 16} (hb : s.status = .busy) (hi : s.inbox = [])
    (hload : engineStep s = .next (s.loadBlock X)) :
    run 50 s = execAccum (afterRounds (s.loadBlock X) 48) :=
  calc run 50 s = run 49 (s.loadBlock X) := run_succ ((step_nil hi).trans hload) 49
    _ = run 1 (afterRounds (s.loadBlock X) 48) :=
      run_add 48 1 (run_afterRounds (s := s.loadBlock X) hb hi rfl rfl le_rfl)
    _ = step (afterRounds (s.loadBlock X) 48) := run_one _
    _ = execAccum (afterRounds (s.loadBlock X) 48) := step_afterRounds_all (s := s.loadBlock X) hb hi

/-- ACCUM after n ROUND steps: the rows so far added to A to D, the next block, all else as before (R210). For
every n, so that checking the frame never evaluates the rows. -/
theorem execAccum_afterRounds (s : State) (n : Nat) :
    ∃ t, execAccum (afterRounds s n) = .next t ∧ t.acc = s.acc.add (workAfterRows s.X s.work n) ∧
      t.block = s.block + 1 ∧
      t.phase = (if s.block.toNat + 1 < blockCount s.len.toNat then 1 else 4) ∧ t.stepNo = 0 ∧
      t.status = s.status ∧ t.len = s.len ∧ t.err = s.err ∧ t.errCause = s.errCause ∧ t.msg = s.msg ∧
      t.inbox = s.inbox ∧ t.replies = s.replies :=
  ⟨_, rfl, rfl, rfl, rfl, rfl, rfl, rfl, rfl, rfl, rfl, rfl, rfl⟩

/-- Settles O56: LOAD, then the 48 rows of the step table one after the other, then ACCUM. -/
theorem blockRunIsCompress : Obligations.BlockRunIsCompress := by
  unfold Obligations.BlockRunIsCompress
  intro s M hinv h hb hp hi
  have hrun := run_block hb hi (engineStep_load hinv h hb hp)
  obtain ⟨t, ht, hacc, hblock, hphase, hst, hstatus, hframe⟩ :=
    execAccum_afterRounds (s.loadBlock (parseBlock (padded M) s.block.toNat)) 48
  obtain ⟨hlen, herr, hcause, hmsg, hinbox, hreplies⟩ := hframe
  refine ⟨t, hrun.trans ht, hacc.trans (add_workAfterRows _ s.acc), ?_, ?_, hst, hstatus.trans hb, hlen,
    herr, hcause, hmsg, hinbox.trans hi, hreplies⟩
  · rw [hblock]
    exact hinv.block_succ_toNat hb (by simp [hp])
  · rw [← h.length]
    exact hphase

end Sys2Proof.Machine
end

section
/-! PROOFS. The state accumulator and the output finalizer (45_accumulator_finalizer.md): ACCUM and FINAL, the
digest as bytes and as registers, and a computation under any interleaving of host transactions and engine
steps. -/

namespace Sys2Proof.Machine

/-! ## ACCUM and FINAL (R210, R215) -/

/-- Settles O24: the four additions are the word type's, and N(LEN) has its closed form. -/
theorem accumAddsWorkingCopy : Obligations.AccumAddsWorkingCopy := by
  unfold Obligations.AccumAddsWorkingCopy
  intro s
  rw [← Quad.add_eq, ← blockCount_eq]
  rfl

/-- Settles O25: FINAL is this update. -/
theorem finalEndsRun : Obligations.FinalEndsRun := by
  unfold Obligations.FinalEndsRun
  exact fun _ => rfl

/-! ## The digest, byte by byte and in the register window (R36, R217) -/

/-- Word k of four registers, in the order A, B, C, D (R217). -/
def Quad.word (q : Quad) : Nat → Word
  | 0 => q.a
  | 1 => q.b
  | 2 => q.c
  | _ => q.d

/-- Byte 4k + m of the serialised registers is bits [8m+7:8m] of word k: the 16 bytes in order. -/
theorem digestBytes_getElem? (q : Quad) {k m : Nat} (hk : k < 4) (hm : m < 4) :
    (digestBytes q)[4 * k + m]? = some ((q.word k).extractLsb' (8 * m) 8) := by
  interval_cases k <;> interval_cases m <;> rfl

/-- In DONE, DIGESTk is word k of A to D (R36, R70). -/
theorem regRead_digest {s : State} (hd : s.status = .done) {k : Nat} (hk : k < 4) :
    regRead s (BitVec.ofNat 6 (0x20 + 4 * k)) = s.acc.word k := by
  interval_cases k <;> exact if_pos hd

/-- Settles O60: the byte order of R217 on both sides, and DIGESTk as word k in DONE. -/
theorem digestBytesAndLanes : Obligations.DigestBytesAndLanes := by
  unfold Obligations.DigestBytesAndLanes
  refine ⟨fun M => ⟨rfl, fun m hm => ?_⟩, fun s k m hd hk hm => ?_⟩
  · have hbyte : ∀ k, k < 4 →
        (digest M)[4 * k + m]? = some (((digestWords M).word k).extractLsb' (8 * m) 8) :=
      fun _ hk => digestBytes_getElem? _ hk hm
    have hfirst := hbyte 0 (by decide)
    rw [Nat.mul_zero, Nat.zero_add] at hfirst
    exact ⟨hfirst, hbyte 1 (by decide), hbyte 2 (by decide), hbyte 3 (by decide)⟩
  · rw [regRead_digest hd hk, digestBytes_getElem? _ hk hm]

/-! ## A to D block by block (R216) -/

/-- A to D after the first n blocks of the padded message. -/
def accAfterBlocks (M : List Byte) (n : Nat) : Quad :=
  (List.range n).foldl (fun S i => compress S (parseBlock (padded M) i)) iv

theorem accAfterBlocks_succ (M : List Byte) (n : Nat) :
    accAfterBlocks M (n + 1) = compress (accAfterBlocks M n) (parseBlock (padded M) n) := by
  simp only [accAfterBlocks, List.range_succ, List.foldl_append, List.foldl_cons, List.foldl_nil]

theorem accAfterBlocks_blockCount (M : List Byte) :
    accAfterBlocks M (blockCount M.length) = digestWords M := by
  rw [digestWords, parse, List.foldl_map, padded_length, ← blockCount, accAfterBlocks]

/-! ## Host transactions beside a computation (R251) -/

/-- A host transaction in BUSY leaves everything the computation uses as before. -/
theorem exec_host_sameComputation {i : Instr} {s t : State} (hi : i.agent = .host)
    (hb : s.status = .busy) (h : exec i s = .next t) : SameComputation s t := by
  rcases exec_host_next hi h with ⟨-, rfl⟩ | ⟨_, _, -, rfl⟩ | ⟨-, rfl⟩ | ⟨-, c, -, rfl⟩ |
    ⟨hb', -⟩ | ⟨-, hb', -⟩
  · exact ⟨rfl, rfl, rfl, rfl, rfl, rfl, rfl, rfl, rfl⟩
  · exact ⟨rfl, rfl, rfl, rfl, rfl, rfl, rfl, rfl, rfl⟩
  · exact ⟨rfl, rfl, rfl, rfl, rfl, rfl, rfl, rfl, rfl⟩
  · rw [raiseHostError_eq]
    exact ⟨rfl, rfl, rfl, rfl, rfl, rfl, rfl, rfl, rfl⟩
  · exact absurd hb hb'
  · exact absurd hb hb'

theorem exec_host_inbox {i : Instr} {s t : State} (hi : i.agent = .host) (h : exec i s = .next t) :
    t.inbox = s.inbox := by
  rcases exec_host_next hi h with ⟨-, rfl⟩ | ⟨_, _, -, rfl⟩ | ⟨-, rfl⟩ | ⟨-, c, -, rfl⟩ |
    ⟨-, -, L, rfl⟩ | ⟨-, -, -, rfl⟩
  · rfl
  · rfl
  · rfl
  · exact s.raiseHostError_inbox c
  · rfl
  · rfl

/-- Under the invariant the error record is one that is ever held (R38). -/
theorem Inv.recordHeld {s : State} (h : Inv s) : s.err = true ∨ s.errCause = .noCause := by
  by_cases hc : s.errCause = .noCause
  · exact .inr hc
  · exact .inl (h.record.2 hc)

/-- A message in memory is there for every state with the same LEN and memory. -/
theorem MessageHolds.of_sameComputation {s t : State} {M : List Byte} (h : MessageHolds s M)
    (hst : SameComputation s t) : MessageHolds t M :=
  ⟨hst.len ▸ h.length, hst.msg ▸ h.bytes⟩

/-! ## A computation after m engine steps (R218) -/

/-- PHASE after m engine steps of a computation of N blocks. -/
def phaseAfter (N m : Nat) : BitVec 3 :=
  if m = 50 * N then 4 else if m % 50 = 0 then 1 else if m % 50 = 49 then 3 else 2

/-- STEP after m engine steps. -/
def stepAfter (m : Nat) : Nat := if m % 50 = 0 ∨ m % 50 = 49 then 0 else m % 50 - 1

/-- The state of a computation of the digest of M, m engine steps after its START: m / 50 blocks are in
A to D, and of the block in progress m mod 50 - 1 rows of the step table are in the working copy. -/
structure Progress (M : List Byte) (m : Nat) (s : State) : Prop where
  inv : Inv s
  holds : MessageHolds s M
  status : s.status = .busy
  block : s.block.toNat = m / 50
  phase : s.phase = phaseAfter (blockCount M.length) m
  stepNo : s.stepNo.toNat = stepAfter m
  acc : s.acc = accAfterBlocks M (m / 50)
  X : m % 50 ≠ 0 → s.X = parseBlock (padded M) (m / 50)
  work : m % 50 ≠ 0 → s.work = workAfterRows s.X s.acc (m % 50 - 1)

/-- An accepted START begins a computation (R240). -/
theorem progress_beginRun {s : State} {M : List Byte} (hinv : Inv s) (h : MessageHolds s M)
    (hM : M.length ≤ maxLen) : Progress M 0 s.beginRun where
  inv := hinv.beginRun (h.length.trans_le hM)
  holds := ⟨h.length, h.bytes⟩
  status := rfl
  block := rfl
  phase := by
    have hpos := blockCount_pos M.length
    rw [phaseAfter, if_neg (by omega)]
    rfl
  stepNo := rfl
  acc := rfl
  X h0 := absurd rfl h0
  work h0 := absurd rfl h0

namespace Progress

variable {M : List Byte} {m : Nat} {s : State}

theorem of_sameComputation {t : State} (h : Progress M m s) (hst : SameComputation s t) (ht : Inv t) :
    Progress M m t where
  inv := ht
  holds := h.holds.of_sameComputation hst
  status := hst.status ▸ h.status
  block := hst.block ▸ h.block
  phase := hst.phase ▸ h.phase
  stepNo := hst.stepNo ▸ h.stepNo
  acc := hst.acc ▸ h.acc
  X := hst.X ▸ h.X
  work := hst.work ▸ hst.X ▸ hst.acc ▸ h.work

theorem setInbox (h : Progress M m s) (es : List Event) : Progress M m (s.setInbox es) :=
  h.of_sameComputation ⟨rfl, rfl, rfl, rfl, rfl, rfl, rfl, rfl, rfl⟩ (h.inv.setInbox es)

/-- A host transaction always answers, and the computation is where it was (R251). -/
theorem hostStep (h : Progress M m s) (x : HostTxn) :
    ∃ t, hostStep x s = .next t ∧ Progress M m t ∧ t.inbox = s.inbox := by
  have hagent := decodeHost_agent x
  obtain ⟨t, ht⟩ := exec_host_completes s hagent
  exact ⟨t, (hostStep_held (errorRecordHeld_of h.inv.recordHeld)).trans ht,
    h.of_sameComputation (exec_host_sameComputation hagent h.status ht) (h.inv.exec_host hagent ht),
    exec_host_inbox hagent ht⟩

/-- STEP is 0 when LOAD, ACCUM or FINAL is due. -/
theorem stepNo_eq_zero (h : Progress M m s) (hm : m % 50 = 0 ∨ m % 50 = 49) : s.stepNo = 0 := by
  have hst := h.stepNo
  rw [stepAfter, if_pos hm] at hst
  exact BitVec.eq_of_toNat_eq hst

/-- LOAD, the first engine step of a block. -/
theorem load (h : Progress M m s) (hm : m < 50 * blockCount M.length) (hmod : m % 50 = 0) :
    ∃ t, engineStep s = .next t ∧ Progress M (m + 1) t ∧ t.inbox = s.inbox := by
  have hp : s.phase = 1 := by rw [h.phase, phaseAfter, if_neg hm.ne, if_pos hmod]
  have hstep := engineStep_load h.inv h.holds h.status hp
  have hdiv : (m + 1) / 50 = m / 50 := by omega
  have hmod' : (m + 1) % 50 = 1 := by omega
  refine ⟨_, hstep, ?_, rfl⟩
  exact {
    inv := h.inv.engineStep hstep
    holds := ⟨h.holds.length, h.holds.bytes⟩
    status := h.status
    block := by rw [hdiv]; exact h.block
    phase := by simp [phaseAfter, hmod', show m + 1 ≠ 50 * blockCount M.length by omega]
    stepNo := by simp [stepAfter, hmod']
    acc := by rw [hdiv]; exact h.acc
    X := fun _ => by rw [hdiv, State.loadBlock_X, h.block]
    work := fun _ => by rw [hmod']; rfl }

/-- ROUND step m mod 50 - 1 of a block. -/
theorem round (h : Progress M m s) (hm : m < 50 * blockCount M.length) (h0 : m % 50 ≠ 0)
    (h49 : m % 50 ≠ 49) : ∃ t, engineStep s = .next t ∧ Progress M (m + 1) t ∧ t.inbox = s.inbox := by
  have hp : s.phase = 2 := by rw [h.phase, phaseAfter, if_neg hm.ne, if_neg h0, if_neg h49]
  have hst : s.stepNo.toNat = m % 50 - 1 := by rw [h.stepNo, stepAfter, if_neg (by omega)]
  obtain ⟨row, hrow, hstep⟩ := engineStep_round h.status hp (by omega)
  have hdiv : (m + 1) / 50 = m / 50 := by omega
  have hmod : (m + 1) % 50 = m % 50 + 1 := by omega
  have hlast : s.stepNo.toNat < 47 ↔ (m + 1) % 50 ≠ 49 := by omega
  refine ⟨_, hstep, ?_, rfl⟩
  exact {
    inv := h.inv.engineStep hstep
    holds := ⟨h.holds.length, h.holds.bytes⟩
    status := h.status
    block := by rw [hdiv]; exact h.block
    phase := by
      rw [phaseAfter, if_neg (by omega), if_neg (by omega)]
      simp only [afterRound, hp, hlast, ne_eq, ite_not]
    stepNo := by
      simp only [afterRound, stepAfter]
      split_ifs with hlt hend hend
      · omega
      · have hnext : (s.stepNo + 1).toNat = s.stepNo.toNat + 1 := by bv_omega
        omega
      · rfl
      · omega
    acc := by rw [hdiv]; exact h.acc
    X := fun _ => by rw [hdiv]; exact h.X h0
    work := fun _ => by
      have hindex : (m + 1) % 50 - 1 = m % 50 - 1 + 1 := by omega
      rw [hindex, workAfterRows_succ _ _ (hst ▸ hrow)]
      exact congrArg (row.apply s.X) (h.work h0) }

/-- ACCUM, the last engine step of a block: A to D take the block in. -/
theorem accum (h : Progress M m s) (hm : m < 50 * blockCount M.length) (h49 : m % 50 = 49) :
    ∃ t, engineStep s = .next t ∧ Progress M (m + 1) t ∧ t.inbox = s.inbox := by
  have h0 : m % 50 ≠ 0 := by omega
  have hp : s.phase = 3 := by rw [h.phase, phaseAfter, if_neg hm.ne, if_neg h0, if_pos h49]
  have hstep := engineStep_accum h.status hp (h.stepNo_eq_zero (.inr h49))
  have hdiv : (m + 1) / 50 = m / 50 + 1 := by omega
  have hmod : (m + 1) % 50 = 0 := by omega
  refine ⟨_, hstep, ?_, rfl⟩
  exact {
    inv := h.inv.engineStep hstep
    holds := ⟨h.holds.length, h.holds.bytes⟩
    status := h.status
    block := by
      rw [hdiv, ← h.block]
      exact h.inv.block_succ_toNat h.status (by simp [hp])
    phase := by
      have hnext : m / 50 + 1 < blockCount M.length ↔ m + 1 ≠ 50 * blockCount M.length := by omega
      simp only [phaseAfter, hmod, if_true, h.block, h.holds.length, hnext, ne_eq, ite_not]
    stepNo := by simp [stepAfter, hmod]
    acc := by
      have hwork : s.work = workAfterRows s.X s.acc 48 := by simpa only [h49] using h.work h0
      calc s.acc.add s.work = compress s.acc s.X := by rw [hwork, add_workAfterRows]
        _ = accAfterBlocks M ((m + 1) / 50) := by rw [hdiv, accAfterBlocks_succ, h.acc, h.X h0]
    X := fun hne => absurd hmod hne
    work := fun hne => absurd hmod hne }

/-- Before FINAL is due the engine always has a step, and it is the next one of the computation. -/
theorem engineStep (h : Progress M m s) (hm : m < 50 * blockCount M.length) :
    ∃ t, engineStep s = .next t ∧ Progress M (m + 1) t ∧ t.inbox = s.inbox := by
  by_cases h0 : m % 50 = 0
  · exact h.load hm h0
  by_cases h49 : m % 50 = 49
  · exact h.accum hm h49
  · exact h.round hm h0 h49

/-- After all blocks the engine step is FINAL, and A to D are the digest (R215, R216). -/
theorem engineStep_final (h : Progress M (50 * blockCount M.length) s) :
    ∃ t, Machine.engineStep s = .next t ∧ t.status = .done ∧ t.acc = digestWords M ∧
      t.block.toNat = blockCount M.length ∧ t.inbox = s.inbox := by
  have hp : s.phase = 4 := by rw [h.phase, phaseAfter, if_pos rfl]
  have hst : s.stepNo = 0 := h.stepNo_eq_zero (.inl (by omega))
  have hd : decodeSeq s.seq = .ok .final := by simp [decodeSeq, hp, hst]
  have hdiv : 50 * blockCount M.length / 50 = blockCount M.length := by omega
  refine ⟨_, engineStep_busy h.status hd, rfl, ?_, ?_, rfl⟩
  · rw [← accAfterBlocks_blockCount, ← hdiv]
    exact h.acc
  · rw [← hdiv]
    exact h.block

/-! ## Any interleaving of host transactions and engine steps (R218, R251) -/

/-- A host transaction or an engine step: the computation moves on by the engine step, if it is one. -/
theorem step {e : Event} {es : List Event} (h : Progress M m s) (hi : s.inbox = e :: es)
    (he : e.plain = true) (hm : m + [e].count .engine ≤ 50 * blockCount M.length) :
    ∃ t, step s = .next t ∧ Progress M (m + [e].count .engine) t ∧ t.inbox = es := by
  rw [step_cons hi]
  cases e with
  | host x => exact (h.setInbox es).hostStep x
  | engine => exact (h.setInbox es).engineStep hm
  | poll | reset | bindMessage | writeMessage => simp [Event.plain] at he

/-- A schedule of host transactions and engine steps, as long as FINAL is not reached. -/
theorem run {evs rest : List Event} (h : Progress M m s) (hi : s.inbox = evs ++ rest)
    (hplain : ∀ e ∈ evs, e.plain = true)
    (hm : m + evs.count .engine ≤ 50 * blockCount M.length) :
    ∃ t, run evs.length s = .next t ∧ Progress M (m + evs.count .engine) t ∧ t.inbox = rest := by
  induction evs generalizing m s with
  | nil => exact ⟨s, rfl, h, hi⟩
  | cons e evs ih =>
    have hcount : (e :: evs).count .engine = [e].count .engine + evs.count .engine :=
      List.count_append (l₁ := [e])
    rw [hcount, ← Nat.add_assoc] at hm ⊢
    obtain ⟨u, hu, hprog, hinbox⟩ :=
      h.step hi (hplain e List.mem_cons_self) ((Nat.le_add_right _ _).trans hm)
    obtain ⟨t, ht, hdone⟩ := ih hprog hinbox (fun e he => hplain e (List.mem_cons_of_mem _ he)) hm
    exact ⟨t, (run_succ hu _).trans ht, hdone⟩

end Progress

/-- START outside BUSY, of a message the memory holds, begins the computation (R240). -/
theorem step_start {s : State} {M : List Byte} {es : List Event} (hinv : Inv s)
    (hb : s.status ≠ .busy) (h : MessageHolds s M) (hM : M.length ≤ maxLen)
    (hi : s.inbox = .host startTxn :: es) :
    step s = .next (s.setInbox es).beginRun ∧ Progress M 0 (s.setInbox es).beginRun :=
  ⟨(step_host hi hinv.recordHeld).trans
      (execStart_accepted (s := s.setInbox es) hb (h.length.trans_le hM)),
    progress_beginRun (hinv.setInbox es) ⟨h.length, h.bytes⟩ hM⟩

/-- The states of a schedule after START: after k entries the computation is as many engine steps along
as stand among them. -/
theorem run_start_take {s : State} {M : List Byte} {evs rest : List Event} (hinv : Inv s)
    (hb : s.status ≠ .busy) (h : MessageHolds s M) (hM : M.length ≤ maxLen)
    (hi : s.inbox = .host startTxn :: (evs ++ rest)) (hplain : ∀ e ∈ evs, e.plain = true)
    (hcount : evs.count .engine = 50 * blockCount M.length) {k : Nat} (hk : k ≤ evs.length) :
    ∃ u, run (k + 1) s = .next u ∧ Progress M ((evs.take k).count .engine) u ∧
      u.inbox = evs.drop k ++ rest := by
  obtain ⟨hstart, hprog⟩ := step_start hinv hb h hM hi
  have hle : (evs.take k).count .engine ≤ evs.count .engine := (List.take_sublist k evs).count_le _
  obtain ⟨u, hu, hprog, hinbox⟩ := hprog.run (evs := evs.take k) (rest := evs.drop k ++ rest)
    (by simp [← List.append_assoc]) (fun e he => hplain e (List.mem_of_mem_take he))
    (by omega)
  rw [List.length_take_of_le hk] at hu
  rw [Nat.zero_add] at hprog
  exact ⟨u, (run_succ hstart k).trans hu, hprog, hinbox⟩

/-- Settles O57: START begins the computation, every entry of the schedule keeps it, and the engine step after
all blocks is FINAL. -/
theorem engineComputesDigest : Obligations.EngineComputesDigest := by
  unfold Obligations.EngineComputesDigest
  intro s M evs rest hinv hb h hM hi hplain hcount
  have hrun {k : Nat} (hk : k ≤ evs.length) := run_start_take hinv hb h hM hi hplain hcount hk
  refine ⟨?_, ?_⟩
  · rintro k _ hk rfl
    obtain ⟨u, hu, hprog, -⟩ := hrun hk
    exact ⟨u, hu, hprog.status, hprog.block, hprog.phase, hprog.stepNo⟩
  · obtain ⟨u, hu, hprog, hinbox⟩ := hrun le_rfl
    rw [List.take_length, hcount] at hprog
    rw [List.drop_length, List.nil_append] at hinbox
    obtain ⟨t, ht, hdone, hacc, hblock, hrest⟩ := (hprog.setInbox rest).engineStep_final
    have hlast : step u = .next t := (step_cons hinbox).trans ht
    refine ⟨t, ?_, hdone, hacc, hblock, hrest, ?_⟩
    · rw [run_add (evs.length + 1) 1 hu, run_one, hlast]
    · rw [← hacc]
      exact ⟨regRead_digest hdone (k := 0) (by decide), regRead_digest hdone (k := 1) (by decide),
        regRead_digest hdone (k := 2) (by decide), regRead_digest hdone (k := 3) (by decide)⟩

end Sys2Proof.Machine
end

section
/-! PROOFS. The host interface (46_host_interface.md): what reads, commands and writes do, a step as the
decoded host transaction or the selected micro-operation, the sequencer's transitions, and the host beside the
engine. -/

namespace Sys2Proof.Machine

/-! ## Reads (R230, with the layouts of R73 and R75) -/

/-- The cause code stands above STATE, ERR and the reserved bit. -/
theorem statusWord_cause (s : State) : (statusWord s).extractLsb' 4 4 = s.errCause.code := by
  rw [statusWord]
  iterate 3 rw [BitVec.extractLsb'_append_eq_of_le (by decide)]
  exact BitVec.extractLsb'_append_eq_right

theorem statusWord_high (s : State) : (statusWord s).extractLsb' 8 24 = 0 := by
  rw [statusWord]
  iterate 3 rw [BitVec.extractLsb'_append_eq_of_le (by decide)]
  exact BitVec.extractLsb'_append_eq_left

theorem statusWord_bit_three (s : State) : (statusWord s).getLsbD 3 = false := by
  simp only [statusWord, BitVec.getLsbD_append]
  simp

theorem seqWord_stepNo (s : State) : (seqWord s).extractLsb' 0 6 = s.stepNo := by
  rw [seqWord, BitVec.extractLsb'_append_eq_of_add_le (by decide)]
  exact seqStep_seq s

theorem seqWord_phase (s : State) : (seqWord s).extractLsb' 6 3 = s.phase := by
  rw [seqWord, BitVec.extractLsb'_append_eq_of_add_le (by decide)]
  exact seqPhase_seq s

theorem seqWord_high (s : State) : (seqWord s).extractLsb' 9 23 = 0 :=
  BitVec.extractLsb'_append_eq_left

/-- CMD and the reserved and misaligned offsets read 0 (R70, R230). -/
theorem regRead_of_notMem {s : State} {off : BitVec 6}
    (h : off ∉ [offStatus, offSeq, offLenLo, offLenHi, offBlockLo, offBlockHi, offDigest0, offDigest1,
      offDigest2, offDigest3]) : regRead s off = 0 := by
  simp only [List.mem_cons, List.not_mem_nil, or_false, not_or] at h
  simp [regRead, h]

/-- Settles O17: the word is the register read, and each offset is one branch of it. -/
theorem readReturnsRegister : Obligations.ReadReturnsRegister := by
  unfold Obligations.ReadReturnsRegister
  intro off data s
  refine ⟨regRead s off, rfl, ?_, ?_, ?_, ?_, ?_, ?_, ?_, ?_, ?_, ?_, regRead_of_notMem⟩
  · rintro rfl
    exact ⟨statusState_statusWord s, statusErr_statusWord s, statusWord_bit_three s, statusWord_cause s,
      statusWord_high s⟩
  · rintro rfl
    exact ⟨seqWord_stepNo s, seqWord_phase s, seqWord_high s⟩
  all_goals
    rintro rfl
    rfl

/-- A returned word is in no register (R230, log entry 4). -/
theorem regRead_reply (s : State) (v : Word) (off : BitVec 6) : regRead (s.reply v) off = regRead s off := rfl

/-- Settles O18: the second read finds the registers as the first one did. -/
theorem readsRepeat : Obligations.ReadsRepeat := by
  unfold Obligations.ReadsRepeat
  intro off data data' s t u ht hu
  cases ht
  cases hu
  exact ⟨regRead s off, congrArg (· :: regRead s off :: s.replies) (regRead_reply s _ off)⟩

/-! ## Commands (R240 to R246) -/

/-- Settles O9: NOP answers the state it is given. -/
theorem nopChangesNothing : Obligations.NopChangesNothing := by
  unfold Obligations.NopChangesNothing
  exact fun _ => rfl

/-- Settles O10: the accepted branch of START is this update. -/
theorem startBeginsRun : Obligations.StartBeginsRun := by
  unfold Obligations.StartBeginsRun
  exact fun _ => execStart_accepted

theorem execStart_busy {s : State} (hb : s.status = .busy) :
    exec .start s = .next (s.raiseHostError .startBusy) := if_pos hb

/-- Settles O11: the two refusing branches of START, in their order. -/
theorem startRefusals : Obligations.StartRefusals := by
  unfold Obligations.StartRefusals
  intro s
  simp only [← raiseHostError_eq]
  exact ⟨execStart_busy, execStart_lenRange⟩

/-- Settles O12: CLEAR_ERR is this update. -/
theorem clearErrClearsRecord : Obligations.ClearErrClearsRecord := by
  unfold Obligations.ClearErrClearsRecord
  exact fun _ => rfl

/-- Settles O13: CMD.ILLEGAL only records, whatever its word. -/
theorem illegalCommandRecorded : Obligations.IllegalCommandRecorded := by
  unfold Obligations.IllegalCommandRecorded
  intro w s _
  rw [← raiseHostError_eq]
  rfl

/-! ## Register writes (R232, R233) -/

/-- Settles O16: WR.RO only records, whatever its offset and value. -/
theorem readOnlyWriteRecorded : Obligations.ReadOnlyWriteRecorded := by
  unfold Obligations.ReadOnlyWriteRecorded
  intro off v s _ _ _
  rw [← raiseHostError_eq]
  rfl

theorem exec_wrLenLo_busy {s : State} (hb : s.status = .busy) (v : Word) :
    exec (.wrLenLo v) s = .next (s.raiseHostError .writeBusy) := if_pos hb

theorem exec_wrLenHi_busy {s : State} (hb : s.status = .busy) (v : Word) :
    exec (.wrLenHi v) s = .next (s.raiseHostError .writeBusy) := if_pos hb

theorem exec_wrLenLo_of_not_busy {s : State} (hb : s.status ≠ .busy) (v : Word) :
    exec (.wrLenLo v) s = .next (s.setLen (s.len.extractLsb' 32 32 ++ v : BitVec (32 + 32))) := if_neg hb

theorem exec_wrLenHi_of_not_busy {s : State} (hb : s.status ≠ .busy) (v : Word) :
    exec (.wrLenHi v) s = .next (s.setLen (v ++ s.len.extractLsb' 0 32 : BitVec (32 + 32))) := if_neg hb

/-- Settles O15: in BUSY both writes only record; else the new LEN is the written half beside the old one. -/
theorem lengthWrites : Obligations.LengthWrites := by
  unfold Obligations.LengthWrites
  intro v s
  refine ⟨fun hb => ?_, fun hb => ⟨⟨_, exec_wrLenLo_of_not_busy hb v, ?_, ?_⟩,
    ⟨_, exec_wrLenHi_of_not_busy hb v, ?_, ?_⟩⟩⟩
  · rw [← raiseHostError_eq]
    exact ⟨exec_wrLenLo_busy hb v, exec_wrLenHi_busy hb v⟩
  · exact BitVec.extractLsb'_append_eq_right
  · exact BitVec.extractLsb'_append_eq_left
  · exact BitVec.extractLsb'_append_eq_left
  · exact BitVec.extractLsb'_append_eq_right

/-- Settles O37: the write moves LEN to one of another block count and leaves BLOCK and STATE. -/
theorem lengthWriteInDoneMovesBlockCount : Obligations.LengthWriteInDoneMovesBlockCount := by
  unfold Obligations.LengthWriteInDoneMovesBlockCount
  intro s v hd hblock hne
  have hb : s.status ≠ .busy := by simp [hd]
  exact ⟨_, exec_wrLenLo_of_not_busy hb v, hd, fun heq => hne (heq.symm.trans hblock)⟩

/-! ## What a step runs (R250, R251) -/

/-- A record that is never held stops a host transaction (log entry 16). -/
theorem hostStep_neverHeld {s : State} (he : s.err = false) (hc : s.errCause ≠ .noCause) (x : HostTxn) :
    hostStep x s = .fault .errorRecordNeverHeld := by
  simp [hostStep, errorRecordHeld, he, hc]

/-- Settles O6: the transaction is decoded and executed, behind the check of the record. -/
theorem stepRunsHostTransaction : Obligations.StepRunsHostTransaction := by
  unfold Obligations.StepRunsHostTransaction
  intro s x es i hi hdecode
  rw [decode_host_pack] at hdecode
  cases hdecode
  refine ⟨step_host hi, fun he hc => ?_⟩
  rw [step_cons hi]
  exact hostStep_neverHeld (s := s.setInbox es) he hc x

/-- An engine step, scheduled or by default, with es the steps to come after it (log entry 1). -/
theorem step_engine {s : State} {es : List Event}
    (h : s.inbox = .engine :: es ∨ (s.inbox = [] ∧ es = [])) :
    step s = engineStep (s.setInbox es) := by
  rcases h with hi | ⟨hi, rfl⟩
  · exact step_cons hi
  · have hs : s.setInbox [] = s := by rw [← hi]; rfl
    rw [step_nil hi, hs]

/-- Settles O7: in BUSY the engine executes what SEQ decodes to, and outside it nothing moves. -/
theorem stepRunsSelectedMicroOperation : Obligations.StepRunsSelectedMicroOperation := by
  unfold Obligations.StepRunsSelectedMicroOperation
  intro s es i hi
  rw [step_engine hi]
  exact ⟨fun hb hdecode => engineStep_busy hb hdecode, fun hb => engineStep_idle hb⟩

/-! ## The sequencer's transitions (R254) -/

theorem exec_load_seq {s t : State} (h : exec .load s = .next t) : t.phase = 2 ∧ t.stepNo = 0 := by
  obtain ⟨-, -, -, rfl⟩ := execLoad_next h
  exact ⟨rfl, rfl⟩

/-- A ROUND counts STEP up below 47, and from 47 on goes to ACCUM (R184). -/
theorem exec_round_seq {i : Instr} {s t : State} (hr : i.roundOf ≠ none) (h : exec i s = .next t) :
    (s.stepNo.toNat < 47 → t.phase = s.phase ∧ t.stepNo.toNat = s.stepNo.toNat + 1) ∧
    (47 ≤ s.stepNo.toNat → t.phase = 3 ∧ t.stepNo = 0) := by
  obtain ⟨⟨r, j⟩, hrj⟩ := Option.ne_none_iff_exists'.1 hr
  rw [exec_of_roundOf hrj] at h
  cases h
  rw [roundOp_phase, roundOp_stepNo]
  refine ⟨fun hlt => ?_, fun hle => ?_⟩
  · rw [if_pos hlt, if_pos hlt]
    exact ⟨rfl, by bv_omega⟩
  · rw [if_neg hle.not_gt, if_neg hle.not_gt]
    exact ⟨rfl, rfl⟩

/-- ACCUM goes to LOAD while a block is left, and else to FINAL (R210). -/
theorem exec_accum_seq {s t : State} (h : exec .accum s = .next t) :
    t.stepNo = 0 ∧ (s.block.toNat + 1 < blockCount s.len.toNat → t.phase = 1) ∧
    (blockCount s.len.toNat ≤ s.block.toNat + 1 → t.phase = 4) := by
  cases h
  exact ⟨rfl, fun hlt => if_pos hlt, fun hle => if_neg hle.not_gt⟩

/-- Settles O32, from what each kind of instruction does to SEQ. -/
theorem sequencerTransitions : Obligations.SequencerTransitions := by
  unfold Obligations.SequencerTransitions
  intro i s t h
  refine ⟨fun ha => exec_host_seq ha h, ?_, fun hr => exec_round_seq hr h, ?_, ?_⟩
  · rintro rfl
    exact exec_load_seq h
  · rintro rfl
    exact exec_accum_seq h
  · rintro rfl
    cases h
    exact ⟨rfl, rfl⟩

/-! ## The host beside the engine (R66, R250, R251) -/

/-- Settles O31: no branch of a host transaction that is taken in BUSY writes what a computation uses. -/
theorem hostLeavesRunningComputation : Obligations.HostLeavesRunningComputation := by
  unfold Obligations.HostLeavesRunningComputation
  exact fun _ _ _ => exec_host_sameComputation

/-- In BUSY LOAD, ROUND, ACCUM or FINAL is due (R31 (i)). -/
theorem Inv.phase_cases {s : State} (h : Inv s) (hb : s.status = .busy) :
    s.phase = 1 ∨ s.phase = 2 ∨ s.phase = 3 ∨ s.phase = 4 := by
  have hp := h.busyIff.1 hb
  bv_omega

/-- LOAD, when due: the block is in range by the invariant and present by the host's duty (R66). -/
theorem Inv.engineStep_load_completes {s : State} (h : Inv s) (hb : s.status = .busy) (hp : s.phase = 1)
    (hmsg : ∀ i, i < s.len.toNat → (s.msg.read i).isSome = true) :
    ∃ t, Machine.engineStep s = .next t := by
  have hst : s.stepNo = 0 := h.stepZero (by simp [hp])
  have hpresent : blockPresent s.msg s.len.toNat s.block.toNat = true :=
    (blockPresent_iff _ _ _).2 fun i hi _ => hmsg i hi
  exact ⟨_, (engineStep_busy (i := .load) hb (by simp [decodeSeq, hp, hst])).trans
    (execLoad_of_present (h.lenInRange hb) (h.blockBelow hb (by simp [hp])) hpresent)⟩

/-- Settles O35: in BUSY one micro-operation is due, and each of them answers. -/
theorem engineStepNeverStops : Obligations.EngineStepNeverStops := by
  unfold Obligations.EngineStepNeverStops
  intro s hinv hmsg
  rcases ne_or_eq s.status .busy with hb | hb
  · exact ⟨s, engineStep_idle hb⟩
  rcases hinv.phase_cases hb with hp | hp | hp | hp
  · exact hinv.engineStep_load_completes hb hp hmsg
  · obtain ⟨row, -, hstep⟩ := engineStep_round hb hp (Nat.lt_succ_of_le hinv.stepHeld)
    exact ⟨_, hstep⟩
  · exact ⟨_, engineStep_accum hb hp (hinv.stepZero (by simp [hp]))⟩
  · have hst : s.stepNo = 0 := hinv.stepZero (by simp [hp])
    exact ⟨_, engineStep_busy (i := .final) hb (by simp [decodeSeq, hp, hst])⟩

end Sys2Proof.Machine
end

section
/-! PROOFS. Errors (60_exceptions.md): the first cause stays until CLEAR_ERR, an illegal command word comes
first, and several instances of the block leave each other alone. -/

namespace Sys2Proof.Machine

/-! ## The first cause (R272, R277) -/

/-- A recorded error makes a further one leave no trace. -/
theorem raiseHostError_of_err {s : State} (he : s.err = true) (c : ErrCause) : s.raiseHostError c = s :=
  if_pos he

/-- The engine never touches the error record (R37). -/
theorem exec_engine_errorRecord {i : Instr} {s t : State} (hi : i.agent = .engine)
    (h : exec i s = .next t) : t.err = s.err ∧ t.errCause = s.errCause := by
  obtain ⟨-, -, -, -, -, -, -, hwriter, -⟩ := onlyTheseWriteEachField i s t h
  by_contra hne
  have hhost : i.agent = .host := hwriter (not_and_or.1 hne)
  exact absurd (hi.symm.trans hhost) (by decide)

/-- With an error recorded, CLEAR_ERR is the only host transaction that touches the record. -/
theorem exec_host_errorRecord {i : Instr} {s t : State} (hi : i.agent = .host) (hc : i ≠ .clearErr)
    (he : s.err = true) (h : exec i s = .next t) : t.err = s.err ∧ t.errCause = s.errCause := by
  rcases exec_host_next hi h with ⟨-, rfl⟩ | ⟨_, _, -, rfl⟩ | ⟨hclear, -⟩ | ⟨-, c, -, rfl⟩ |
    ⟨-, -, L, rfl⟩ | ⟨-, -, -, rfl⟩
  · exact ⟨rfl, rfl⟩
  · exact ⟨rfl, rfl⟩
  · exact absurd hclear hc
  · rw [raiseHostError_of_err he]
    exact ⟨rfl, rfl⟩
  · exact ⟨rfl, rfl⟩
  · exact ⟨rfl, rfl⟩

/-- Settles O29: the engine keeps the record, and so does every host transaction but CLEAR_ERR. -/
theorem firstCauseIsKept : Obligations.FirstCauseIsKept := by
  unfold Obligations.FirstCauseIsKept
  intro i s t hc he h
  have hrecord : t.err = s.err ∧ t.errCause = s.errCause := by
    cases ha : i.agent with
    | host => exact exec_host_errorRecord ha hc he h
    | engine => exact exec_engine_errorRecord ha h
  exact ⟨hrecord.1.trans he, hrecord.2⟩

/-! ## Several instances (R285) -/

/-- What a step of one instance can do to the product: it replaces that instance by its own next state. -/
theorem instanceStep_next {ss ts : List State} {k : Nat} (hk : k < ss.length)
    (h : instanceStep ss k = .next ts) : ∃ t, step ss[k] = .next t ∧ ts = ss.set k t := by
  induction ss generalizing k ts with
  | nil => exact absurd hk (Nat.not_lt_zero k)
  | cons s ss ih =>
    cases k with
    | zero =>
      cases hs : step s <;> simp only [instanceStep, hs, reduceCtorEq] at h
      cases h
      exact ⟨_, hs, rfl⟩
    | succ k =>
      cases hs : instanceStep ss k <;> simp only [instanceStep, hs, reduceCtorEq] at h
      cases h
      obtain ⟨t, ht, rfl⟩ := ih (Nat.lt_of_succ_lt_succ hk) hs
      exact ⟨t, ht, rfl⟩

/-- Settles O38: setting place k of the list keeps its length and its other places. -/
theorem instancesAreIndependent : Obligations.InstancesAreIndependent := by
  unfold Obligations.InstancesAreIndependent
  intro ss ts k hk h
  obtain ⟨t, ht, rfl⟩ := instanceStep_next hk h
  exact ⟨List.length_set, fun j hj => List.getElem?_set_ne hj.symm,
    ss[k], t, List.getElem?_eq_getElem hk, List.getElem?_set_self hk, ht⟩

/-! ## Priority of an illegal command word (R234, R273) -/

/-- A write to CMD of a word that is no command decodes to CMD.ILLEGAL, before STATE and LEN are looked at. -/
theorem decodeHost_illegalCommand {w : Word} (h0 : w ≠ 0) (h1 : w ≠ 1) (h2 : w ≠ 2) :
    decodeHost { write := true, off := 0x00, data := w } = .cmdIllegal w := by
  simp only [decodeHost, decodeCommand_eq, if_true, if_neg h0, if_neg h1, if_neg h2]

/-- Settles O14: the step executes CMD.ILLEGAL, which only records, in every STATE and with every LEN. -/
theorem illegalCommandComesFirst : Obligations.IllegalCommandComesFirst := by
  unfold Obligations.IllegalCommandComesFirst
  intro s w es hi h0 h1 h2 hrecord
  calc step s
      = exec (decodeHost { write := true, off := 0x00, data := w }) (s.setInbox es) := step_host hi hrecord
    _ = exec (.cmdIllegal w) (s.setInbox es) := by rw [decodeHost_illegalCommand h0 h1 h2]
    _ = .next (withFirstCause (s.setInbox es) .illegalCmd) :=
      illegalCommandRecorded w _ ((illegal_fields_iff w).2 ((three_le_toNat_iff w).2 ⟨h0, h1, h2⟩))

end Sys2Proof.Machine
end

section
/-! PROOFS. Reset and waiting (70_reset_and_hazards.md): the reset values, the reset input, and the poll for
DONE, which ends after an accepted START and never ends in IDLE. -/

namespace Sys2Proof.Machine

/-! ## Reset (R300 to R302, R274) -/

/-- Every register of the window reads 0 at reset (the derived clause of R301). -/
theorem regRead_reset (off : BitVec 6) : regRead State.reset off = 0 := by
  unfold regRead
  split_ifs <;> rfl

/-- Settles O39: the fields are the literals of `State.reset`. -/
theorem resetValues : Obligations.ResetValues :=
  ⟨rfl, rfl, rfl, rfl, rfl, rfl, rfl, regRead_reset⟩

/-- The reset input is one step, whatever transaction it loses (R274, R300). -/
theorem step_reset {s : State} {lost : Option HostTxn} {es : List Event}
    (hi : s.inbox = .reset lost :: es) : step s = .next (resetStep (s.setInbox es)) :=
  step_cons hi

/-- Settles O40: the step takes `State.reset` but for the message memory, the inbox and the replies. -/
theorem resetStepTakesResetState : Obligations.ResetStepTakesResetState := by
  unfold Obligations.ResetStepTakesResetState
  intro s lost es hi
  exact ⟨_, step_reset hi, rfl, rfl, rfl, rfl, rfl, rfl, rfl, rfl, rfl, rfl⟩

/-! ## One step of the poll for DONE (R85) -/

/-- The poll of STATUS for DONE. -/
def pollDone : Event := .poll 0x04 0x00000003 0x00000002

/-- It is what WAITDONE puts into the inbox (R86). -/
theorem expand_waitDone_events : (Pseudo.expand .waitDone).map Stmt.event = [pollDone] := rfl

/-- The mask keeps bits 1 and 0. -/
theorem and_three_eq_two_iff (w : Word) : w &&& 0x00000003 = 0x00000002 ↔ w.extractLsb' 0 2 = 2 := by
  have hmask : (w &&& 0x00000003).toNat = w.toNat % 2 ^ 2 :=
    (BitVec.toNat_and ..).trans (Nat.and_two_pow_sub_one_eq_mod w.toNat 2)
  rw [← BitVec.toNat_inj, ← BitVec.toNat_inj, hmask, BitVec.extractLsb'_toNat, Nat.shiftRight_zero]
  rfl

/-- The poll's condition, of the STATUS word it reads, is that STATE is DONE (R32, R73). -/
theorem pollDone_matches_iff (s : State) :
    regRead s 0x04 &&& 0x00000003 = 0x00000002 ↔ s.status = .done := by
  have hcode : s.status.code = 2 ↔ s.status = .done := by cases s.status <;> decide
  rw [and_three_eq_two_iff, ← hcode, ← statusState_statusWord]
  rfl

/-- A poll's read answers whenever the error record is one that is ever held (R85; log entry 3). -/
theorem pollStep_held {s : State} (h : s.err = true ∨ s.errCause = .noCause) (off : BitVec 6)
    (mask value : Word) :
    pollStep off mask value s = .next (if regRead s off &&& mask = value then s.reply (regRead s off)
      else (s.setInbox (.engine :: .poll off mask value :: s.inbox)).reply (regRead s off)) := by
  unfold pollStep
  split_ifs
  · exact hostStep_held (errorRecordHeld_of h)
  · exact hostStep_held (errorRecordHeld_of (s := s.setInbox _) h)

/-- In DONE the poll's read is its last. -/
theorem step_pollDone_done {s : State} {es : List Event} (hinv : Inv s)
    (hi : s.inbox = pollDone :: es) (hd : s.status = .done) :
    step s = .next ((s.setInbox es).reply (regRead s 0x04)) :=
  (step_cons hi).trans <| (pollStep_held (s := s.setInbox es) hinv.recordHeld _ _ _).trans <|
    congrArg Host.Outcome.next (if_pos ((pollDone_matches_iff (s.setInbox es)).2 hd))

/-- Outside DONE the read is followed by an engine step, and the poll is due again (log entry 3). -/
theorem step_pollDone_again {s : State} {es : List Event} (hinv : Inv s)
    (hi : s.inbox = pollDone :: es) (hd : s.status ≠ .done) :
    step s = .next ((s.setInbox (.engine :: pollDone :: es)).reply (regRead s 0x04)) :=
  (step_cons hi).trans <| (pollStep_held (s := s.setInbox es) hinv.recordHeld _ _ _).trans <|
    congrArg Host.Outcome.next (if_neg (mt (pollDone_matches_iff (s.setInbox es)).1 hd))

/-! ## Waiting: reads and engine steps in turn (R316) -/

/-- The inbox after n steps of a poll for DONE that has not ended: the poll, or its engine step before it. -/
def waitInbox (n : Nat) : List Event := if n % 2 = 0 then [pollDone] else [.engine, pollDone]

theorem waitInbox_even (m : Nat) : waitInbox (2 * m) = [pollDone] := if_pos (by omega)

theorem waitInbox_odd (m : Nat) : waitInbox (2 * m + 1) = [.engine, pollDone] := if_neg (by omega)

theorem pollDone_mem_waitInbox (n : Nat) : pollDone ∈ waitInbox n := by
  unfold waitInbox
  split_ifs <;> simp

/-- P m describes the states of a wait outside DONE after m of its engine steps: a read of the poll keeps it, and
each of the first B engine steps answers and moves it on. -/
structure Waiting (P : Nat → State → Prop) (B : Nat) : Prop where
  inv : ∀ {m s}, P m s → Inv s
  notDone : ∀ {m s}, P m s → s.status ≠ .done
  setInbox : ∀ {m s}, P m s → ∀ es, P m (s.setInbox es)
  reply : ∀ {m s}, P m s → ∀ v, P m (s.reply v)
  engine : ∀ {m s}, P m s → m < B → ∃ t, engineStep s = .next t ∧ P (m + 1) t ∧ t.inbox = s.inbox

namespace Waiting

variable {P : Nat → State → Prop} {B : Nat} {s : State}

/-- An even step of the wait is a read, an odd one an engine step. -/
theorem step (h : Waiting P B) {n : Nat} (hn : n ≤ 2 * B) (hP : P (n / 2) s)
    (hi : s.inbox = waitInbox n) :
    ∃ t, step s = .next t ∧ P ((n + 1) / 2) t ∧ t.inbox = waitInbox (n + 1) := by
  obtain ⟨m, rfl | rfl⟩ := n.even_or_odd'
  · rw [waitInbox_even] at hi
    rw [waitInbox_odd, show (2 * m + 1) / 2 = 2 * m / 2 by omega]
    exact ⟨_, step_pollDone_again (h.inv hP) hi (h.notDone hP), h.reply (h.setInbox hP _) _, rfl⟩
  · rw [waitInbox_odd] at hi
    rw [show 2 * m + 1 + 1 = 2 * (m + 1) by omega, waitInbox_even, step_cons hi,
      show 2 * (m + 1) / 2 = (2 * m + 1) / 2 + 1 by omega]
    exact h.engine (h.setInbox hP _) (by omega)

/-- The wait does not end before the engine has taken B steps and one more is due. -/
theorem run (h : Waiting P B) (hP : P 0 s) (hi : s.inbox = [pollDone]) {n : Nat}
    (hn : n ≤ 2 * B + 1) : ∃ u, run n s = .next u ∧ P (n / 2) u ∧ u.inbox = waitInbox n := by
  induction n with
  | zero => exact ⟨s, rfl, hP, hi⟩
  | succ n ih =>
    obtain ⟨u, hu, hPu, hinbox⟩ := ih (by omega)
    obtain ⟨t, ht, hPt, hnext⟩ := h.step (by omega) hPu hinbox
    exact ⟨t, by rw [run_add n 1 hu, run_one, ht], hPt, hnext⟩

end Waiting

/-! ## In IDLE the wait never ends (R316) -/

/-- In IDLE the engine is quiescent (R250), so any number of rounds of the poll leaves STATE there. -/
theorem waiting_idle (B : Nat) : Waiting (fun _ s => Inv s ∧ s.status = .idle) B where
  inv h := h.1
  notDone h hd := by simp [h.2] at hd
  setInbox h es := ⟨h.1.setInbox es, h.2⟩
  reply h v := ⟨h.1.reply v, h.2⟩
  engine {_ s} h _ := ⟨s, engineStep_idle (by simp [h.2]), h, rfl⟩

/-- Settles O59: the wait in IDLE goes on for every number of steps, with the poll in the inbox throughout. -/
theorem waitForDoneWithoutStartNeverEnds : Obligations.WaitForDoneWithoutStartNeverEnds := by
  unfold Obligations.WaitForDoneWithoutStartNeverEnds
  intro s k hinv hidle hi
  obtain ⟨u, hu, ⟨-, hstatus⟩, hinbox⟩ := (waiting_idle k).run ⟨hinv, hidle⟩ hi (n := k) (by omega)
  exact ⟨u, hu, hstatus, hinbox ▸ pollDone_mem_waitInbox k⟩

/-! ## After START the wait ends (R316, R218) -/

/-- Until FINAL is due a computation goes on under the poll, one engine step a round. -/
theorem waiting_progress (M : List Byte) : Waiting (Progress M) (50 * blockCount M.length) where
  inv h := h.inv
  notDone h hd := by simp [h.status] at hd
  setInbox h es := h.setInbox es
  reply h v := h.of_sameComputation ⟨rfl, rfl, rfl, rfl, rfl, rfl, rfl, rfl, rfl⟩ (h.inv.reply v)
  engine h hm := h.engineStep hm

/-- The last engine step of the wait is FINAL; the poll is still due after it. -/
theorem run_wait_final {M : List Byte} {s : State} (h : Progress M 0 s) (hi : s.inbox = [pollDone]) :
    ∃ t, run (2 * (50 * blockCount M.length) + 2) s = .next t ∧ Inv t ∧ t.status = .done ∧
      t.acc = digestWords M ∧ t.inbox = [pollDone] := by
  obtain ⟨u, hu, hprog, hinbox⟩ := (waiting_progress M).run h hi le_rfl
  rw [show (2 * (50 * blockCount M.length) + 1) / 2 = 50 * blockCount M.length by omega] at hprog
  rw [waitInbox_odd] at hinbox
  obtain ⟨t, ht, hdone, hacc, -, hrest⟩ := (hprog.setInbox [pollDone]).engineStep_final
  have hfinal : step u = .next t := (step_cons hinbox).trans ht
  refine ⟨t, ?_, hprog.inv.step hfinal, hdone, hacc, hrest⟩
  rw [run_add (2 * (50 * blockCount M.length) + 1) 1 hu, run_one, hfinal]

/-- Before its last read the wait has steps to come. -/
theorem run_wait_inbox {M : List Byte} {s : State} (h : Progress M 0 s) (hi : s.inbox = [pollDone])
    {n : Nat} (hn : n ≤ 2 * (50 * blockCount M.length) + 2) :
    ∃ u, run n s = .next u ∧ u.inbox ≠ [] := by
  rcases Nat.le_succ_iff.1 hn with hn | rfl
  · obtain ⟨u, hu, -, hinbox⟩ := (waiting_progress M).run h hi hn
    exact ⟨u, hu, hinbox ▸ List.ne_nil_of_mem (pollDone_mem_waitInbox n)⟩
  · obtain ⟨t, ht, -, -, -, hinbox⟩ := run_wait_final h hi
    exact ⟨t, ht, by simp [hinbox]⟩

/-- Settles O58: START begins the computation, the rounds of the poll carry it to FINAL, and the read after it
is the last. -/
theorem waitForDoneEnds : Obligations.WaitForDoneEnds := by
  unfold Obligations.WaitForDoneEnds
  intro s M hinv hb h hM hi
  obtain ⟨hstart, hprog⟩ := step_start hinv hb h hM hi
  refine ⟨fun k hk => ?_, ?_⟩
  · cases k with
    | zero => exact ⟨s, rfl, by simp [hi]⟩
    | succ n =>
      rw [run_succ hstart]
      exact run_wait_inbox hprog rfl (by omega)
  · obtain ⟨t, ht, hinvt, hdone, hacc, hinbox⟩ := run_wait_final hprog rfl
    refine ⟨(t.setInbox []).reply (regRead t 0x04), ?_, rfl, hdone, hacc⟩
    rw [show 2 * (50 * blockCount M.length + 1) + 2 = 2 * (50 * blockCount M.length) + 2 + 1 + 1 by omega,
      run_succ hstart, run_add _ 1 ht, run_one, step_pollDone_done hinvt hinbox hdone]

end Sys2Proof.Machine
end
